-- ==== Sys2Proof/Word.lean ====
section
/-! DEFINITION. The data word of the CORE (spec 00_scope R10): registers, samples, coefficients and commands are
32 bits wide, and a byte-addressed host sees a word as four bytes (20_memory R90). -/

namespace Sys2Proof

/-- A register, sample or command word (00_scope R10). Bit 0 is the least significant (R11). -/
abbrev Word := BitVec 32

/-- One byte lane of a word (20_memory R90). -/
abbrev Byte := BitVec 8

end Sys2Proof
end

