-- ==== Sys2Proof/Config.lean ====
section
/-! DEFINITION. What an implementation fixes (00_scope R9) and the free values. An `opaque` constant has no value that
a proof can see, so what is proved holds whatever it is. The parameters LATENCY, BUS_PROTOCOL, CORE_BASE and
IRQ_ROUTING of R9 are invisible at transaction level and have no constant here (log entries 1 and 19). -/

namespace Sys2Proof

/-- The three arithmetic primitives of 00_scope R13, as `nanResult` distinguishes them (R9). -/
inductive FloatOp where
  | add
  | sub
  | mul
  deriving DecidableEq, Repr

/-- The biquad's five coefficients {b0, b1, b2, a1, a2} (10_state R45), also what genBQ yields (00_scope R9). -/
structure BqCoeffs where
  b0 : Word
  b1 : Word
  b2 : Word
  a1 : Word
  a2 : Word
  deriving DecidableEq, Repr, Inhabited

namespace Config

/-- BLOCK_SIZE less one. OPEN (00_scope R9, 92 D24, 93 U11): 1 <= BLOCK_SIZE <= 16384. Log entry 3, safe. -/
opaque blockSizeLessOne : Fin 16384

/-- BLOCK_SIZE, 1 to 16384 (00_scope R9). -/
def blockSize : Nat :=
  blockSizeLessOne.val + 1

/-- The sign of the NaN that an operation yields. OPEN (00_scope R9 nanResult, 92 D23, 93 U1). Log entry 4, safe. -/
opaque nanSign : FloatOp → Word → Word → Bool

/-- The fraction, less one, of the NaN that an operation yields: any nonzero fraction. OPEN (00_scope R9, 93 U1).
Log entry 4, safe. -/
opaque nanFractionLessOne : FloatOp → Word → Word → Fin 8388607

/-- genSP, the bit result of the single-pole generator (45_coefficients R258). OPEN (93 U4): it depends on SP_W alone.
Log entry 5, safe. -/
opaque genSP : Word → Word

/-- genBQ, the bit results of the biquad generator, of FS, FC and Q (45_coefficients R263). OPEN (93 U5). Log entry 6,
safe. -/
opaque genBQ : Word → Word → Word → BqCoeffs

/-- The n-th word drawn where the spec says that a read returns an unspecified word (20_memory R84, R86; 93 U2).
Log entry 7, safe. -/
opaque freeWord : Nat → Word

/-- Q_RESET, 1.0 for this hardware (00_scope R9, 92 D28). Log entry 17. -/
def qReset : Word := 0x3F800000#32

/-- The identity word (10_state R32). -/
def identity : Word := 0x46430007#32

end Config

end Sys2Proof
end

