-- ==== Sys2Proof/Syntax.lean ====
section
/-! DEFINITION. The commands of "CORE command set 1" (30_encoding R123), one constructor per row of
spec/opcode_table.json. A command word has no operand field (R122): every operand is a named register. -/

namespace Sys2Proof

/-- The 14 commands, in the order of the opcode table (30_encoding R123). -/
inductive Instr where
  /-- NOP, no effect except completing (40_sequencing R151). -/
  | nop
  /-- INIT_INT, opens an integrator invocation (41_integrator R170). -/
  | initInt
  /-- INIT_SP, opens a single-pole invocation, the seed not yet taken (42_single_pole R190). -/
  | initSp
  /-- INIT_BQ, opens a biquad invocation (43_biquad R210). -/
  | initBq
  /-- INIT_COMB, opens a comb invocation (44_comb R231). -/
  | initComb
  /-- RUN_INT, one block through the integrator (41_integrator R171). -/
  | runInt
  /-- RUN_SP, one block through the single-pole filter (42_single_pole R192). -/
  | runSp
  /-- RUN_BQ, one block through the biquad (43_biquad R211). -/
  | runBq
  /-- RUN_COMB, one block through the selected comb (44_comb R232). -/
  | runComb
  /-- FINISH, closes the invocation and reports an empty one (40_sequencing R153). -/
  | finish
  /-- ABORT, closes any open invocation (40_sequencing R152). -/
  | abort
  /-- GEN_SP, computes SP_ALPHA (45_coefficients R257). -/
  | genSp
  /-- GEN_BQ, computes B0 to A2 (45_coefficients R260). -/
  | genBq
  /-- SRST, the soft reset (40_sequencing R155). -/
  | srst
  deriving DecidableEq, Repr, Inhabited

end Sys2Proof
end

