-- ==== Sys2Proof/Machine/State.lean ====
section
/-! DEFINITION. Everything the spec gives the machine (10_state R30 to R60, 20_memory R80, 60_exceptions R282,
70_reset R320), as plain data, and the state after reset. Two agents step (00_scope R8): the host's transactions
and the core's turns stand in `agenda`, in the order in which they happen. -/

namespace Sys2Proof.Machine

/-- STATUS.ACTIVE: the kernel whose invocation is open, or none. Its codes 0 to 4 are the only values the field takes
(10_state R34). -/
inductive Kernel where
  | none
  | int
  | sp
  | bq
  | comb
  deriving DecidableEq, Repr

/-- CTRL.COMB_VAR: the four comb structures (44_comb R230). -/
inductive CombVar where
  | full
  | ffOnly
  | fbOnly
  | pass
  deriving DecidableEq, Repr

/-- ERRCODE[3:0] (60_exceptions R280). The codes 7 to 15 are never recorded. -/
inductive ErrCode where
  | none
  | invalidParameter
  | invalidInput
  | illegalCommand
  | sequence
  | coefLocked
  | busyWrite
  deriving DecidableEq, Repr

/-- The biquad's history BQ_X1, BQ_X2, BQ_Y1, BQ_Y2 (10_state R49). -/
structure BqHist where
  x1 : Word
  x2 : Word
  y1 : Word
  y2 : Word
  deriving DecidableEq, Repr

/-- The comb's input window COMB_X1 to COMB_X5 and output window COMB_Y1 to COMB_Y3 (10_state R50, R51). -/
structure CombHist where
  x1 : Word
  x2 : Word
  x3 : Word
  x4 : Word
  x5 : Word
  y1 : Word
  y2 : Word
  y3 : Word
  deriving DecidableEq, Repr

/-- All four biquad history scalars at +0.0 (43_biquad R210). -/
def BqHist.zero : BqHist := ⟨0#32, 0#32, 0#32, 0#32⟩

/-- Both comb windows at +0.0 (44_comb R231). -/
def CombHist.zero : CombHist := ⟨0#32, 0#32, 0#32, 0#32, 0#32, 0#32, 0#32, 0#32⟩

/-- One bus access of the host (92 D2, D3): a byte offset of 17 bits, a size in bytes, and for a write the data.
A host may ask for any size and offset; 20_memory R83 says which get the ERROR response. -/
inductive Access where
  | read (off : BitVec 17) (size : Nat)
  | write (off : BitVec 17) (size : Nat) (data : Word)
  deriving DecidableEq, Repr

/-- One entry of the agenda: what happens next. -/
inductive Event where
  /-- The core has its turn (00_scope R8); where no command is latched it has no step and the turn passes. -/
  | coreTurn
  /-- The host performs one bus transaction. -/
  | access (a : Access)
  /-- The host pulls rst_n low (70_reset R320, R321). -/
  | assertReset
  /-- rst_n rises (70_reset R320). -/
  | releaseReset
  deriving DecidableEq, Repr

/-- What the bus port answered to the last transaction (92 D2; 20_memory R82, R83). -/
inductive Response where
  /-- No transaction has been answered yet. -/
  | none
  /-- A read's OKAY with its data. -/
  | data (w : Word)
  /-- A write's OKAY. -/
  | okay
  /-- ERROR, with no data (20_memory R83). -/
  | error
  deriving DecidableEq, Repr

/-- The model faults of 60_exceptions R282. They are the model's, not the chip's, and they are records (00_scope R14):
each is put into `State.faults` while the machine goes on, and no step ends in one. -/
inductive Fault where
  /-- A misaligned, sub-word or unmapped host access (20_memory R83). Raised by the host's access, which the chip answers
  with ERROR and no change of state. Safe: a claim about a final run must show that none is recorded. -/
  | busError (off : Nat)
  /-- A read of buffer word i, which nothing has written since rst_n (20_memory R86). Raised by a host read, whose data
  is a free word (safe), and by a RUN command, which then has no other effect in the model. The chip goes on with
  unspecified words there, so a claim about what follows a RUN's record is unsafe unless it shows that none is recorded
  (70_reset R341; log entry 10). -/
  | unwrittenRead (i : Nat)
  deriving DecidableEq, Repr

/-- Why a step has no meaning. -/
inductive Refusal where
  /-- A command with no meaning yet; raised by exec's arms alone. Safe. -/
  | notModelled (mnemonic : String)
  /-- A bus access while rst_n is low, which "gets no defined response" and which a host "must not issue"
  (70_reset R320, 93 U7). Raised by the host's access. Safe. -/
  | accessDuringReset (off : Nat)
  deriving DecidableEq, Repr

/-- The block buffer as bytes: (offset, byte) pairs, offsets strictly rising. An offset that is not listed is
unwritten and has no value (10_state R53, 20_memory R86), so no entry equals what an unlisted offset reads as. -/
abbrev Memory := List Host.Cell

/-- All the state of the CORE and of its bus port. -/
structure State where
  /-- The level of rst_n (70_reset R320): true is high. -/
  rstN : Bool
  /-- CMDLATCH; STATUS.BUSY is "a command is latched" (10_state R34, R52). -/
  cmdLatch : Option Word
  /-- STATUS.DONE (10_state R34). -/
  done : Bool
  /-- STATUS.ERR (10_state R34). -/
  err : Bool
  /-- STATUS.ERR_OVF (10_state R34). -/
  errOvf : Bool
  /-- STATUS.NONEMPTY (10_state R34). -/
  nonempty : Bool
  /-- STATUS.SP_SEEDED (10_state R34, R52). -/
  spSeeded : Bool
  /-- STATUS.ACTIVE (10_state R34). -/
  active : Kernel
  /-- CTRL.IE_DONE (10_state R33). -/
  ieDone : Bool
  /-- CTRL.IE_ERR (10_state R33). -/
  ieErr : Bool
  /-- CTRL.COMB_VAR (10_state R33). -/
  combVar : CombVar
  /-- ERRCODE (10_state R36). -/
  errCode : ErrCode
  /-- ERRINFO (10_state R37). -/
  errInfo : Word
  /-- BLKSZ, the machine's BLOCK_SIZE, which no step changes (10_state R38). -/
  blockSize : Nat
  /-- BLKCNT (10_state R39). -/
  blkcnt : Word
  /-- FS (10_state R40). -/
  fs : Word
  /-- FC (10_state R41). -/
  fc : Word
  /-- Q (10_state R42). -/
  q : Word
  /-- SP_W (10_state R43). -/
  spW : Word
  /-- SP_ALPHA (10_state R44). -/
  spAlpha : Word
  /-- B0, B1, B2, A1, A2 (10_state R45). -/
  bqCoeffs : BqCoeffs
  /-- COMB_G1 (10_state R46). -/
  combG1 : Word
  /-- COMB_G2 (10_state R46). -/
  combG2 : Word
  /-- INT_Y1 (10_state R47). -/
  intY1 : Word
  /-- SP_Y1 (10_state R48). -/
  spY1 : Word
  /-- BQ_X1, BQ_X2, BQ_Y1, BQ_Y2 (10_state R49). -/
  bqHist : BqHist
  /-- COMB_X1 to COMB_X5, COMB_Y1 to COMB_Y3 (10_state R50, R51). -/
  combHist : CombHist
  /-- BUF (10_state R53). -/
  mem : Memory
  /-- The model's own: the host's transactions still to come and the core's turns, in order (log entries 1, 2). -/
  agenda : List Event
  /-- The bus port's last answer (log entry 15). -/
  resp : Response
  /-- The model faults recorded so far, oldest first (00_scope R14, 60_exceptions R282). -/
  faults : List Fault
  /-- The model's own: how many free words have been drawn (log entry 7). -/
  draws : Nat
  deriving DecidableEq, Repr

/-- The machine right after `rst_n` has risen, every value as 10_state R60 tables it: idle, no invocation open, no
error recorded, interrupts disabled, every buffer word unwritten. Nothing stands on the agenda (log entry 2). -/
def State.reset : State where
  rstN := true
  cmdLatch := none
  done := false
  err := false
  errOvf := false
  nonempty := false
  spSeeded := false
  active := .none
  ieDone := false
  ieErr := false
  combVar := .full
  errCode := .none
  errInfo := 0#32
  blockSize := Config.blockSize
  blkcnt := 0#32
  fs := 0#32
  fc := 0#32
  q := Config.qReset
  spW := 0#32
  spAlpha := 0x3F800000#32
  bqCoeffs := ⟨0x3F800000#32, 0#32, 0#32, 0#32, 0#32⟩
  combG1 := 0x3E000000#32
  combG2 := 0x3F172A5A#32
  intY1 := 0#32
  spY1 := 0#32
  bqHist := BqHist.zero
  combHist := CombHist.zero
  mem := []
  agenda := []
  resp := .none
  faults := []
  draws := 0

end Sys2Proof.Machine
end

