-- ==== Sys2Proof/Machine/Flags.lean ====
section
/-! DEFINITION. STATUS, CTRL and ERRCODE as words, and irq (10_state R33, R34, R36; 60_exceptions R283). These are the
CORE's only flags: no arithmetic sets one (10_state R54). -/

namespace Sys2Proof.Machine

/-- STATUS.BUSY: a command is latched (10_state R34, R52). -/
def State.busy (s : State) : Bool :=
  s.cmdLatch.isSome

/-- The irq output, a level (60_exceptions R283); STATUS.IRQ mirrors it. -/
def State.irq (s : State) : Bool :=
  (s.done && s.ieDone) || (s.err && s.ieErr)

/-- The code of ACTIVE: 1 INT, 2 SP, 3 BQ, 4 COMB, 0 none (10_state R34). -/
def Kernel.code : Kernel → BitVec 3
  | .none => 0#3
  | .int => 1#3
  | .sp => 2#3
  | .bq => 3#3
  | .comb => 4#3

/-- The code of COMB_VAR (10_state R33). -/
def CombVar.code : CombVar → BitVec 2
  | .full => 0#2
  | .ffOnly => 1#2
  | .fbOnly => 2#2
  | .pass => 3#2

/-- The structure a COMB_VAR code selects; all four values are legal (10_state R33). -/
def combVarOf (c : BitVec 2) : CombVar :=
  if c = 0#2 then .full else if c = 1#2 then .ffOnly else if c = 2#2 then .fbOnly else .pass

/-- The code in ERRCODE[3:0] (60_exceptions R280). -/
def ErrCode.code : ErrCode → BitVec 4
  | .none => 0#4
  | .invalidParameter => 1#4
  | .invalidInput => 2#4
  | .illegalCommand => 3#4
  | .sequence => 4#4
  | .coefLocked => 5#4
  | .busyWrite => 6#4

/-- STATUS as a read returns it, from bit 31 down to bit 0 (10_state R34). -/
def statusWord (s : State) : Word :=
  0#15 ++ BitVec.ofBool s.irq ++ 0#5 ++ s.active.code ++ 0#2 ++ BitVec.ofBool s.spSeeded ++
    BitVec.ofBool s.nonempty ++ BitVec.ofBool s.errOvf ++ BitVec.ofBool s.err ++ BitVec.ofBool s.done ++
    BitVec.ofBool s.busy

/-- CTRL as a read returns it, reserved bits 0 (10_state R33). -/
def ctrlWord (s : State) : Word :=
  0#26 ++ s.combVar.code ++ 0#2 ++ BitVec.ofBool s.ieErr ++ BitVec.ofBool s.ieDone

/-- ERRCODE as a read returns it, bits [31:4] 0 (10_state R36). -/
def errCodeWord (s : State) : Word :=
  0#28 ++ s.errCode.code

/-- wdata[5:4] of a CTRL write (10_state R33). -/
def ctrlVarField (v : Word) : CombVar :=
  combVarOf (v.extractLsb' 4 2)

/-- A CTRL write that is performed: IE_DONE, IE_ERR and COMB_VAR from wdata[0], wdata[1] and wdata[5:4], every other
bit ignored (10_state R33). -/
def setCtrl (v : Word) (s : State) : State :=
  { s with ieDone := v.getLsbD 0, ieErr := v.getLsbD 1, combVar := ctrlVarField v }

end Sys2Proof.Machine
end

