-- ==== Sys2Proof/Machine/Operands.lean ====
section
/-! DEFINITION. The operands: the 34 registers of 10_state R31 with their offsets, what a read of each returns, what
a plain write of each stores, who locks it (R57), and where a bus offset leads (20_memory R80, R81). -/

namespace Sys2Proof.Machine

/-- The 34 registers, in the order of their offsets (10_state R31). -/
inductive Reg where
  | id
  | ctrl
  | status
  | cmd
  | errcode
  | errinfo
  | blksz
  | blkcnt
  | fs
  | fc
  | q
  | spW
  | spAlpha
  | b0
  | b1
  | b2
  | a1
  | a2
  | combG1
  | combG2
  | intY1
  | spY1
  | bqX1
  | bqX2
  | bqY1
  | bqY2
  | combX1
  | combX2
  | combX3
  | combX4
  | combX5
  | combY1
  | combY2
  | combY3
  deriving DecidableEq, Repr

/-- All registers (10_state R31). -/
def allRegs : List Reg :=
  [.id, .ctrl, .status, .cmd, .errcode, .errinfo, .blksz, .blkcnt, .fs, .fc, .q, .spW, .spAlpha, .b0, .b1, .b2, .a1,
    .a2] ++
  [.combG1, .combG2, .intY1, .spY1, .bqX1, .bqX2, .bqY1, .bqY2, .combX1, .combX2, .combX3, .combX4, .combX5, .combY1,
    .combY2, .combY3]

/-- The byte offset of each register (10_state R31). -/
def regOffset : Reg → Nat
  | .id => 0x000
  | .ctrl => 0x004
  | .status => 0x008
  | .cmd => 0x00C
  | .errcode => 0x010
  | .errinfo => 0x014
  | .blksz => 0x018
  | .blkcnt => 0x01C
  | .fs => 0x020
  | .fc => 0x024
  | .q => 0x028
  | .spW => 0x02C
  | .spAlpha => 0x030
  | .b0 => 0x034
  | .b1 => 0x038
  | .b2 => 0x03C
  | .a1 => 0x040
  | .a2 => 0x044
  | .combG1 => 0x048
  | .combG2 => 0x04C
  | .intY1 => 0x050
  | .spY1 => 0x054
  | .bqX1 => 0x058
  | .bqX2 => 0x05C
  | .bqY1 => 0x060
  | .bqY2 => 0x064
  | .combX1 => 0x068
  | .combX2 => 0x06C
  | .combX3 => 0x070
  | .combX4 => 0x074
  | .combX5 => 0x078
  | .combY1 => 0x07C
  | .combY2 => 0x080
  | .combY3 => 0x084

/-- The register at an offset, if one is there (10_state R31). -/
def regAt (off : Nat) : Option Reg :=
  allRegs.find? (fun r => regOffset r == off)

/-- Where an aligned offset leads (20_memory R80). -/
inductive Target where
  /-- A register of 10_state R31. -/
  | reg (r : Reg)
  /-- A reserved register, 0x088 to 0x0FC. -/
  | reserved
  /-- Buffer word i. -/
  | buffer (i : Nat)
  /-- No such word. -/
  | unmapped
  deriving DecidableEq, Repr

/-- The address map (20_memory R80, R81) of a CORE whose buffer has `n` words. -/
def targetOf (n off : Nat) : Target :=
  match regAt off with
  | some r => .reg r
  | none =>
    if 0x088 ≤ off ∧ off ≤ 0x0FC then .reserved
    else if 0x10000 ≤ off ∧ off < 0x10000 + 4 * n then .buffer ((off - 0x10000) / 4)
    else .unmapped

/-- What a read of a register returns (10_state R31 to R51); CMD reads 0 (R35). -/
def readReg (s : State) : Reg → Word
  | .id => Config.identity
  | .ctrl => ctrlWord s
  | .status => statusWord s
  | .cmd => 0#32
  | .errcode => errCodeWord s
  | .errinfo => s.errInfo
  | .blksz => BitVec.ofNat 32 s.blockSize
  | .blkcnt => s.blkcnt
  | .fs => s.fs
  | .fc => s.fc
  | .q => s.q
  | .spW => s.spW
  | .spAlpha => s.spAlpha
  | .b0 => s.bqCoeffs.b0
  | .b1 => s.bqCoeffs.b1
  | .b2 => s.bqCoeffs.b2
  | .a1 => s.bqCoeffs.a1
  | .a2 => s.bqCoeffs.a2
  | .combG1 => s.combG1
  | .combG2 => s.combG2
  | .intY1 => s.intY1
  | .spY1 => s.spY1
  | .bqX1 => s.bqHist.x1
  | .bqX2 => s.bqHist.x2
  | .bqY1 => s.bqHist.y1
  | .bqY2 => s.bqHist.y2
  | .combX1 => s.combHist.x1
  | .combX2 => s.combHist.x2
  | .combX3 => s.combHist.x3
  | .combX4 => s.combHist.x4
  | .combX5 => s.combHist.x5
  | .combY1 => s.combHist.y1
  | .combY2 => s.combHist.y2
  | .combY3 => s.combHist.y3

/-- The registers that read their current value while BUSY = 1 (20_memory R84). -/
def readableWhileBusy : Reg → Bool
  | .id | .ctrl | .status | .errcode | .errinfo | .blksz => true
  | _ => false

/-- The kernel whose open invocation locks a whole register (10_state R57). CTRL.COMB_VAR, which COMB locks as well,
is a field and has its own rule (45_coefficients R251). -/
def ownerOf : Reg → Option Kernel
  | .spAlpha => some .sp
  | .b0 | .b1 | .b2 | .a1 | .a2 => some .bq
  | .combG1 | .combG2 => some .comb
  | _ => none

/-- `R <- v` for the registers that store a host's word bit for bit: the generator inputs and the coefficients
(10_state R40 to R46; 45_coefficients R250, R252). Every other register ignores it. -/
def storeReg (r : Reg) (v : Word) (s : State) : State :=
  match r with
  | .fs => { s with fs := v }
  | .fc => { s with fc := v }
  | .q => { s with q := v }
  | .spW => { s with spW := v }
  | .spAlpha => { s with spAlpha := v }
  | .b0 => { s with bqCoeffs := { s.bqCoeffs with b0 := v } }
  | .b1 => { s with bqCoeffs := { s.bqCoeffs with b1 := v } }
  | .b2 => { s with bqCoeffs := { s.bqCoeffs with b2 := v } }
  | .a1 => { s with bqCoeffs := { s.bqCoeffs with a1 := v } }
  | .a2 => { s with bqCoeffs := { s.bqCoeffs with a2 := v } }
  | .combG1 => { s with combG1 := v }
  | .combG2 => { s with combG2 := v }
  | _ => s

end Sys2Proof.Machine
end

