-- ==== Sys2Proof/WellFormed.lean ====
section
/-! DEFINITION. When a command word is well formed (30_encoding R120, R124, R125). A term of Instr has no operand
fields (R122), so every term is well formed; what can be ill formed is the 32-bit word a host writes to CMD. -/

namespace Sys2Proof

/-- RSVD, bits [23:0], "must be 0x000000" (30_encoding R120). -/
def rsvdClear (w : Word) : Bool :=
  w.extractLsb' 0 24 == 0#24

/-- The 14 legal values of OPC (30_encoding R123). -/
def legalOpcodes : List Byte :=
  [0x00#8, 0x10#8, 0x11#8, 0x12#8, 0x13#8, 0x20#8, 0x21#8, 0x22#8, 0x23#8, 0x30#8, 0x31#8, 0x40#8, 0x41#8, 0xF0#8]

/-- OPC, bits [31:24], is one of the 14 values of 30_encoding R123; the other 242 are illegal (R125). -/
def opcodeLegal (w : Word) : Bool :=
  legalOpcodes.contains (w.extractLsb' 24 8)

/-- A word that decodes to a command (30_encoding R124). -/
def commandWordWf (w : Word) : Bool :=
  rsvdClear w && opcodeLegal w

end Sys2Proof
end

