-- ==== Sys2Proof/Decode.lean ====
section
/-! DEFINITION. Command words to commands and back (30_encoding R120 to R125): the decoder, total on every 32-bit
word and rejecting by name, then the encoder, both from the table of R123. -/

namespace Sys2Proof

/-- Why a word is no command. Either way the core raises ILLEGAL_COMMAND (30_encoding R124, R125). -/
inductive DecodeReject where
  /-- OPC is one of the 242 values outside R123's table. -/
  | illegalOpcode (opc : Byte)
  /-- A legal OPC with a nonzero RSVD field. -/
  | rsvdNonzero (opc : Byte)
  deriving DecidableEq, Repr

/-- What the decoder answers. -/
inductive Decoded where
  | command (i : Instr)
  | rejected (r : DecodeReject)
  deriving DecidableEq, Repr

/-- OPC, bits [31:24] (30_encoding R120). -/
def opcField (w : Word) : Byte :=
  w.extractLsb' 24 8

/-- The operation an OPC value names (30_encoding R123). -/
def opcToInstr (opc : Byte) : Option Instr :=
  if opc = 0x00#8 then some .nop
  else if opc = 0x10#8 then some .initInt
  else if opc = 0x11#8 then some .initSp
  else if opc = 0x12#8 then some .initBq
  else if opc = 0x13#8 then some .initComb
  else if opc = 0x20#8 then some .runInt
  else if opc = 0x21#8 then some .runSp
  else if opc = 0x22#8 then some .runBq
  else if opc = 0x23#8 then some .runComb
  else if opc = 0x30#8 then some .finish
  else if opc = 0x31#8 then some .abort
  else if opc = 0x40#8 then some .genSp
  else if opc = 0x41#8 then some .genBq
  else if opc = 0xF0#8 then some .srst
  else none

/-- The core's decode of a latched word (30_encoding R124). -/
def decode (w : Word) : Decoded :=
  match opcToInstr (opcField w) with
  | none => .rejected (.illegalOpcode (opcField w))
  | some i => if rsvdClear w then .command i else .rejected (.rsvdNonzero (opcField w))

/-- The command word of each row of 30_encoding R123: `OPC << 24` with RSVD zero (R120). -/
def encode : Instr → Word
  | .nop => 0x00000000#32
  | .initInt => 0x10000000#32
  | .initSp => 0x11000000#32
  | .initBq => 0x12000000#32
  | .initComb => 0x13000000#32
  | .runInt => 0x20000000#32
  | .runSp => 0x21000000#32
  | .runBq => 0x22000000#32
  | .runComb => 0x23000000#32
  | .finish => 0x30000000#32
  | .abort => 0x31000000#32
  | .genSp => 0x40000000#32
  | .genBq => 0x41000000#32
  | .srst => 0xF0000000#32

/-- The word whose low `nbits` bits are `w`'s and whose other bits are zero. A CMD write carries one whole word
(30_encoding R121), so there is no layout in bytes to choose. -/
def tableWord (nbits w : Nat) : Word :=
  BitVec.ofNat 32 (w % 2 ^ nbits)

/-- The command that `decode` reads from an instruction given as `nbits` bits. -/
def decodeTableWord (nbits w : Nat) : Option Instr :=
  match decode (tableWord nbits w) with
  | .command i => some i
  | .rejected _ => none

end Sys2Proof
end

