-- ==== Sys2Proof/Machine/Ops.lean ====
section
/-! DEFINITION. The named operations that the commands and the bus accesses share: the buffer's bytes and words
(10_state R53, 20_memory R81, R90), recording an error and acknowledging it (60_exceptions R285, R287), completing a
command (40_sequencing R150), opening, closing and counting in an invocation (R150, R154), and the two resets
(10_state R60, 40_sequencing R155, 70_reset R320). -/

namespace Sys2Proof.Machine

/-- What a command or an access answers. -/
abbrev Result := Host.Outcome State Fault Refusal

/-! ## The buffer -/

/-- The canonical form: offsets strictly rising. Nothing listed equals what an unlisted offset reads as, because that
has no value. -/
abbrev Memory.wf (m : Memory) : Prop :=
  m.Pairwise (fun c d => c.1 < d.1)

/-- The byte at an offset, or none where nothing has written it. -/
def readByte : Memory → Nat → Option Byte
  | [], _ => none
  | (k, b) :: rest, a => if k = a then some b else readByte rest a

/-- The memory with one byte written, in canonical form. -/
def writeByte : Memory → Nat → Byte → Memory
  | [], a, b => [(a, b)]
  | (k, c) :: rest, a, b =>
    if a < k then (a, b) :: (k, c) :: rest
    else if a = k then (a, b) :: rest
    else (k, c) :: writeByte rest a b

/-- Byte lane k of a word, bits [8k+7:8k] (20_memory R90). -/
def lane (v : Word) (k : Nat) : Byte :=
  v.extractLsb' (8 * k) 8

/-- The word at an offset, or none where it is unwritten; lane 0 lies lowest (20_memory R90, R92). -/
def readWord (m : Memory) (a : Nat) : Option Word :=
  match readByte m a, readByte m (a + 1), readByte m (a + 2), readByte m (a + 3) with
  | some b0, some b1, some b2, some b3 => some (b3 ++ b2 ++ b1 ++ b0)
  | _, _, _, _ => none

/-- The memory with one word written, bit for bit (20_memory R82). -/
def writeWord (m : Memory) (a : Nat) (v : Word) : Memory :=
  writeByte (writeByte (writeByte (writeByte m a (lane v 0)) (a + 1) (lane v 1)) (a + 2) (lane v 2)) (a + 3) (lane v 3)

/-- The offset of BUF[0] (20_memory R80). -/
def bufBase : Nat := 0x10000

/-- The offset of BUF[i] (20_memory R81). -/
def bufAddr (i : Nat) : Nat :=
  bufBase + 4 * i

/-- BUF[i], or none where it is unwritten. -/
def readBuf (m : Memory) (i : Nat) : Option Word :=
  readWord m (bufAddr i)

/-- BUF[i] <- v. -/
def writeBuf (m : Memory) (i : Nat) (v : Word) : Memory :=
  writeWord m (bufAddr i) v

/-! ## The sample loop -/

/-- The loop over the block in place (20_memory R87): for `count` words from index `i` on, it reads BUF[i], computes
the output from the value read and the history, writes BUF[i], and goes on. It stops with the index of the first
unwritten word (R86). -/
def sweep {H : Type} (f : H → Word → H × Word) : Nat → Nat → H → Memory → Except Nat (H × Memory)
  | 0, _, h, m => .ok (h, m)
  | count + 1, i, h, m =>
    match readBuf m i with
    | none => .error i
    | some x => sweep f count (i + 1) (f h x).1 (writeBuf m i (f h x).2)

/-! ## Errors and completion -/

/-- raise Error(code, info): the recording (60_exceptions R285). The first error since ERR was last clear writes
ERRCODE and ERRINFO; a later one sets ERR_OVF. -/
def raiseError (code : ErrCode) (info : Word) (s : State) : State :=
  if s.err then { s with errOvf := true }
  else { s with err := true, errCode := code, errInfo := info }

/-- A model fault is recorded, permanently (60_exceptions R282). -/
def recordFault (e : Fault) (s : State) : State :=
  { s with faults := s.faults ++ [e] }

/-- The acknowledgement, a write of `v` to STATUS (10_state R34, 60_exceptions R287): each W1C bit whose `v` bit is 1
is cleared, and clearing ERR also sets ERRCODE and ERRINFO to 0. Every other bit is ignored. -/
def acknowledge (v : Word) (s : State) : State :=
  { s with
    done := s.done && !v.getLsbD 1
    err := s.err && !v.getLsbD 2
    errCode := if v.getLsbD 2 then .none else s.errCode
    errInfo := if v.getLsbD 2 then 0#32 else s.errInfo
    errOvf := s.errOvf && !v.getLsbD 3 }

/-- The end of a core step (40_sequencing R150): DONE set, BUSY cleared, CMDLATCH invalid. -/
def complete (s : State) : State :=
  { s with done := true, cmdLatch := none }

/-- A command that raises an error: it records the command's word and completes, with no other effect
(60_exceptions R280, R285). -/
def failCommand (i : Instr) (code : ErrCode) (s : State) : Result :=
  .next (complete (raiseError code (encode i) s))

/-! ## The invocation -/

/-- Kernel k's state at its reset values: `<clear state of k>` of INIT_k (40_sequencing R150, 45_coefficients R253) and
`discard(k)` of FINISH and ABORT (R154). -/
def clearKernel (k : Kernel) (s : State) : State :=
  match k with
  | .none => s
  | .int => { s with intY1 := 0#32 }
  | .sp => { s with spY1 := 0#32, spSeeded := false }
  | .bq => { s with bqHist := BqHist.zero }
  | .comb => { s with combHist := CombHist.zero }

/-- INIT_k after its check (40_sequencing R150). -/
def openInvocation (k : Kernel) (s : State) : State :=
  { clearKernel k s with active := k, blkcnt := 0#32, nonempty := false }

/-- The close of FINISH and ABORT (40_sequencing R152, R153, R154). BLKCNT and the coefficients stay. -/
def closeInvocation (s : State) : State :=
  { clearKernel s.active s with active := .none, nonempty := false }

/-- The end of a successful RUN_k (40_sequencing R150): BLKCNT modulo 2^32, NONEMPTY. -/
def countBlock (s : State) : State :=
  { s with blkcnt := s.blkcnt + 1#32, nonempty := true }

/-- The template of INIT_k (40_sequencing R150). -/
def initCommand (i : Instr) (k : Kernel) (s : State) : Result :=
  if s.active ≠ .none then failCommand i .sequence s
  else .next (complete (openInvocation k s))

/-- The template of RUN_k (40_sequencing R150) over its sample loop. Over a block with an unwritten word the model
records UnwrittenRead of the first such word, the RUN has no other effect (20_memory R86), and the core step completes
as every core step does (R150; log entry 10). -/
def runCommand (i : Instr) (k : Kernel) (loop : State → Except Nat State) (s : State) : Result :=
  if s.active ≠ k then failCommand i .sequence s
  else
    match loop s with
    | .error n => .next (complete (recordFault (.unwrittenRead n) s))
    | .ok t => .next (complete (countBlock t))

/-! ## Resets -/

/-- Every register and hidden bit at its value of 10_state R60. The buffer, the bus port, the pin, BLOCK_SIZE, the
fault records ("rst_n and SRST do not clear them") and the model's own fields are as before. -/
def resetRegisters (s : State) : State :=
  { State.reset with
    rstN := s.rstN
    blockSize := s.blockSize
    mem := s.mem
    agenda := s.agenda
    resp := s.resp
    faults := s.faults
    draws := s.draws }

/-- rst_n low (70_reset R320): the registers reset, a latched command discarded (R321), every buffer word unwritten. -/
def pinReset (s : State) : State :=
  { resetRegisters s with rstN := false, mem := [] }

/-- rst_n rises: the CORE is idle and awaits a command (70_reset R320). -/
def pinRelease (s : State) : State :=
  { s with rstN := true }

/-! ## The bus port -/

/-- The bus answers the host (92 D2). -/
def respond (r : Response) (s : State) : State :=
  { s with resp := r }

/-- A read answered with a word the spec leaves unspecified: a fresh free draw (20_memory R84, R86; 93 U2). -/
def respondFree (s : State) : State :=
  { s with resp := .data (Config.freeWord s.draws), draws := s.draws + 1 }

end Sys2Proof.Machine
end

