-- ==== Sys2Proof/Machine/Bus.lean ====
section
/-! DEFINITION. The host's bus transactions (20_memory R82 to R86), the coefficient loader with its locks
(45_coefficients R250 to R252) and the acceptance of a command (10_state R35). -/

namespace Sys2Proof.Machine

/-- The offset of an access. -/
def Access.off : Access → BitVec 17
  | .read o _ => o
  | .write o _ _ => o

/-- The size of an access in bytes. -/
def Access.size : Access → Nat
  | .read _ n => n
  | .write _ n _ => n

/-- An access that gets the ERROR response (20_memory R83): not 4 bytes, not aligned, or unmapped. -/
def accessBad (n : Nat) (a : Access) : Bool :=
  a.size != 4 || a.off.toNat % 4 != 0 || targetOf n a.off.toNat == .unmapped

/-- Buffer word i read by the host (20_memory R82, R84, R86). A word nothing has written is the model fault
UnwrittenRead and an unspecified word; while BUSY = 1 any buffer word is unspecified (log entries 7, 9). -/
def readBufferAccess (i : Nat) (s : State) : State :=
  match readBuf s.mem i with
  | none => respondFree (recordFault (.unwrittenRead i) s)
  | some w => if s.cmdLatch.isSome then respondFree s else respond (.data w) s

/-- A register read by the host (20_memory R82, R84). -/
def readRegAccess (r : Reg) (s : State) : State :=
  if s.cmdLatch.isSome && !readableWhileBusy r then respondFree s else respond (.data (readReg s r)) s

/-- A reserved offset reads 0 (20_memory R80, R82); while BUSY = 1 it is among the "every other read" that 92 D13 makes
unspecified (log entry 16). -/
def readReservedAccess (s : State) : State :=
  if s.cmdLatch.isSome then respondFree s else respond (.data 0#32) s

/-- MemRead(off, 4) of a mapped, aligned word (20_memory R82, R84). -/
def readAccess (off : BitVec 17) (s : State) : State :=
  match targetOf s.blockSize off.toNat with
  | .reg r => readRegAccess r s
  | .reserved => readReservedAccess s
  | .buffer i => readBufferAccess i s
  | .unmapped => s

/-- zext_32(off), what ERRINFO holds of a dropped write (10_state R37). -/
def offsetInfo (off : BitVec 17) : Word :=
  off.setWidth 32

/-- A write to CTRL (10_state R33, 45_coefficients R251): dropped in full with COEF_LOCKED if it would change COMB_VAR
while COMB is open. -/
def writeCtrl (off : BitVec 17) (v : Word) (s : State) : State :=
  if s.active = .comb ∧ ctrlVarField v ≠ s.combVar then raiseError .coefLocked (offsetInfo off) s
  else setCtrl v s

/-- A write to a register while idle (20_memory R82): CMD latches (10_state R35), STATUS acknowledges, a coefficient
that the active kernel owns is locked (45_coefficients R250), a read-only register ignores it. -/
def writeRegIdle (off : BitVec 17) (r : Reg) (v : Word) (s : State) : State :=
  match r with
  | .cmd => { s with cmdLatch := some v }
  | .status => acknowledge v s
  | .ctrl => writeCtrl off v s
  | r =>
    if ownerOf r = some s.active then raiseError .coefLocked (offsetInfo off) s
    else storeReg r v s

/-- MemWrite(off, 4, v) of a mapped, aligned word while BUSY = 0 (20_memory R82). -/
def writeIdle (off : BitVec 17) (v : Word) (s : State) : State :=
  match targetOf s.blockSize off.toNat with
  | .reg r => writeRegIdle off r v s
  | .reserved => s
  | .buffer i => { s with mem := writeBuf s.mem i v }
  | .unmapped => s

/-- MemWrite(off, 4, v) of a mapped, aligned word while BUSY = 1 (20_memory R84): STATUS is written, every other write
is dropped and raises BUSY_WRITE. -/
def writeBusy (off : BitVec 17) (v : Word) (s : State) : State :=
  if targetOf s.blockSize off.toNat = .reg .status then acknowledge v s
  else raiseError .busyWrite (offsetInfo off) s

/-- MemWrite(off, 4, v) of a mapped, aligned word. It gets an OKAY response (20_memory R82; log entry 18). -/
def writeAccess (off : BitVec 17) (v : Word) (s : State) : State :=
  respond .okay (if s.cmdLatch.isSome then writeBusy off v s else writeIdle off v s)

/-- One bus transaction of the host. While rst_n is low it has no defined response (70_reset R320). -/
def busAccess (a : Access) (s : State) : Result :=
  if !s.rstN then .refused (.accessDuringReset a.off.toNat)
  else if accessBad s.blockSize a then .next (respond .error (recordFault (.busError a.off.toNat) s))
  else
    match a with
    | .read off _ => .next (readAccess off s)
    | .write off _ v => .next (writeAccess off v s)

end Sys2Proof.Machine
end

