-- ==== Sys2Proof/Machine/Float32.lean ====
section
/-! DEFINITION. The kernel arithmetic: IEEE 754 binary32 sum, difference and product, rounded to nearest with ties to
even, subnormals kept, nothing fused, no flags (00_scope R12, R13; 30_encoding R126). A finite value is an integer
number of units of 2^-149, so the exact result of an operation is an integer and is rounded once.
PRESUMED, log entry 12: the spec imports IEEE 754's content by reference (93 G5). -/

namespace Sys2Proof.Machine

/-- The sign, bit [31] (30_encoding R126). -/
def signBit (v : Word) : Bool :=
  v.getLsbD 31

/-- The biased exponent, bits [30:23] (30_encoding R126). -/
def expField (v : Word) : Nat :=
  (v.extractLsb' 23 8).toNat

/-- The fraction, bits [22:0] (30_encoding R126). -/
def fracField (v : Word) : Nat :=
  (v.extractLsb' 0 23).toNat

/-- A NaN, any sign and payload (00_scope R12). -/
def isNaN (v : Word) : Bool :=
  expField v == 255 && fracField v != 0

/-- +inf or -inf (00_scope R12). -/
def isInf (v : Word) : Bool :=
  expField v == 255 && fracField v == 0

/-- Neither an infinity nor a NaN. -/
def isFinite (v : Word) : Bool :=
  expField v != 255

/-- |real(v)| of a finite v in units of 2^-149, subnormals included (00_scope R12). -/
def magUnits (v : Word) : Nat :=
  if expField v = 0 then fracField v else (2 ^ 23 + fracField v) * 2 ^ (expField v - 1)

/-- real(v) of a finite v in units of 2^-149 (00_scope R12). -/
def units (v : Word) : Int :=
  if signBit v then -(magUnits v : Int) else (magUnits v : Int)

/-- `m / 2^sh` rounded to the nearest integer, ties to even. -/
def roundShift (m sh : Nat) : Nat :=
  if 2 * (m % 2 ^ sh) > 2 ^ sh ∨ (2 * (m % 2 ^ sh) = 2 ^ sh ∧ (m / 2 ^ sh) % 2 = 1) then m / 2 ^ sh + 1
  else m / 2 ^ sh

/-- How many low bits of `m` rounding to binary32 drops, where `m` counts units of 2^-(149+k): all but 24 significant
bits, and at least the `k` bits below the least subnormal. -/
def dropBits (m k : Nat) : Nat :=
  max k (Nat.log2 m + 1 - 24)

/-- Bits [30:0] of `rnd(m * 2^-(149+k))`, with overflow to infinity (00_scope R12). A carry out of the significand
moves into the exponent field by itself. -/
def roundMag (m k : Nat) : Nat :=
  min ((dropBits m k - k) * 2 ^ 23 + roundShift m (dropBits m k)) 0x7F800000

/-- A binary32 pattern of a sign and bits [30:0]. -/
def packSign (neg : Bool) (mag : Nat) : Word :=
  BitVec.ofNat 32 ((if neg then 2 ^ 31 else 0) + mag)

/-- nanResult(op, a, b): a NaN, which one being open (00_scope R9, R13; log entry 4). -/
def nanResult (op : FloatOp) (a b : Word) : Word :=
  packSign (Config.nanSign op a b) (0x7F800000 + ((Config.nanFractionLessOne op a b).val + 1))

/-- The value with its sign changed; a difference is the sum with the subtrahend's sign changed. -/
def negate (v : Word) : Word :=
  v ^^^ 0x80000000#32

/-- `a + b'` where the operation's own operands, which name its NaN, are a and b (00_scope R13). An exact zero sum is
+0.0 unless both operands are -0.0. -/
def addSigned (op : FloatOp) (a b b' : Word) : Word :=
  if isNaN a || isNaN b' then nanResult op a b
  else if isInf a then (if isInf b' && signBit a != signBit b' then nanResult op a b else a)
  else if isInf b' then b'
  else if units a + units b' = 0 then packSign (signBit a && signBit b') 0
  else packSign (decide (units a + units b' < 0)) (roundMag (units a + units b').natAbs 0)

/-- fadd(a, b), the binary32 sum (00_scope R13). -/
def fadd (a b : Word) : Word :=
  addSigned .add a b b

/-- fsub(a, b), the binary32 difference a - b (00_scope R13). -/
def fsub (a b : Word) : Word :=
  addSigned .sub a b (negate b)

/-- fmul(a, b), the binary32 product (00_scope R13). -/
def fmul (a b : Word) : Word :=
  if isNaN a || isNaN b then nanResult .mul a b
  else if (isInf a && magUnits b == 0) || (isInf b && magUnits a == 0) then nanResult .mul a b
  else if isInf a || isInf b then packSign (signBit a != signBit b) 0x7F800000
  else packSign (signBit a != signBit b) (roundMag (magUnits a * magUnits b) 149)

end Sys2Proof.Machine
end

