-- ==== Sys2Proof/Machine/Biquad.lean ====
section
/-! DEFINITION. The biquad direct-form-1 kernel, INIT_BQ and RUN_BQ (43_biquad R210, R211). -/

namespace Sys2Proof.Machine

/-- The output of one sample, `((((b0*x + b1*x1) + b2*x2) - a1*y1) - a2*y2)`, each operation rounded (43_biquad
R211). DESIGN CHOICE, log entry 28: R211 contradicts itself. Its corner case has zero input with
zero history give +0.0 whatever the finite coefficients; its pseudocode gives -0.0 where B0, B1 and B2 are negative and
A1 and A2 positive. Another corner case has an infinite input give an infinity unless B0 = 0; the pseudocode gives a NaN
where a term of the history is the opposite infinity. The pseudocode is followed in both. -/
def bqOutput (c : BqCoeffs) (h : BqHist) (x : Word) : Word :=
  fsub (fsub (fadd (fadd (fmul c.b0 x) (fmul c.b1 h.x1)) (fmul c.b2 h.x2)) (fmul c.a1 h.y1)) (fmul c.a2 h.y2)

/-- One sample: the output, and the history shifted by one (43_biquad R211). -/
def bqSample (c : BqCoeffs) (h : BqHist) (x : Word) : BqHist × Word :=
  ({ x1 := x, x2 := h.x1, y1 := bqOutput c h x, y2 := h.y1 }, bqOutput c h x)

/-- The sample loop of RUN_BQ. -/
def bqLoop (s : State) : Except Nat State :=
  (sweep (bqSample s.bqCoeffs) s.blockSize 0 s.bqHist s.mem).map fun r => { s with bqHist := r.1, mem := r.2 }

/-- INIT_BQ (43_biquad R210). -/
def execInitBq (s : State) : Result :=
  initCommand .initBq .bq s

/-- RUN_BQ (43_biquad R211). -/
def execRunBq (s : State) : Result :=
  runCommand .runBq .bq bqLoop s

end Sys2Proof.Machine
end

