-- ==== Sys2Proof/Machine/Comb.lean ====
section
/-! DEFINITION. The comb filter kernel, INIT_COMB and RUN_COMB, in the variant that CTRL.COMB_VAR selects
(44_comb R230 to R233). The source leaves the kernel unfinished; the variants are the spec's. -/

namespace Sys2Proof.Machine

/-- The output of one sample in each variant (44_comb R230, R232). PASS does no arithmetic. DESIGN CHOICE, log entry 29:
R232 contradicts itself on the sign of a zero in FF_ONLY and FB_ONLY. Its corner case has a tap whose window entry is +0.0
change an input of -0.0 to +0.0; its pseudocode gives -0.0 where the gain is negative. The pseudocode is followed. -/
def combOutput (v : CombVar) (g1 g2 : Word) (h : CombHist) (x : Word) : Word :=
  match v with
  | .full => fadd (fadd x (fmul g1 h.y3)) (fmul g2 h.x5)
  | .ffOnly => fadd x (fmul g2 h.x5)
  | .fbOnly => fadd x (fmul g1 h.y3)
  | .pass => x

/-- shift_windows(x, y): both windows move on by one sample, in every variant (44_comb R233). -/
def shiftWindows (h : CombHist) (x y : Word) : CombHist where
  x1 := x
  x2 := h.x1
  x3 := h.x2
  x4 := h.x3
  x5 := h.x4
  y1 := y
  y2 := h.y1
  y3 := h.y2

/-- One sample (44_comb R232). -/
def combSample (v : CombVar) (g1 g2 : Word) (h : CombHist) (x : Word) : CombHist × Word :=
  (shiftWindows h x (combOutput v g1 g2 h x), combOutput v g1 g2 h x)

/-- The sample loop of RUN_COMB. -/
def combLoop (s : State) : Except Nat State :=
  (sweep (combSample s.combVar s.combG1 s.combG2) s.blockSize 0 s.combHist s.mem).map fun r =>
    { s with combHist := r.1, mem := r.2 }

/-- INIT_COMB (44_comb R231). -/
def execInitComb (s : State) : Result :=
  initCommand .initComb .comb s

/-- RUN_COMB (44_comb R232). -/
def execRunComb (s : State) : Result :=
  runCommand .runComb .comb combLoop s

end Sys2Proof.Machine
end

