-- ==== Sys2Proof/Machine/Control.lean ====
section
/-! DEFINITION. The control and lifecycle commands NOP, ABORT, FINISH and SRST (40_sequencing R151 to R155). -/

namespace Sys2Proof.Machine

/-- NOP completes and does nothing else (40_sequencing R151). -/
def execNop (s : State) : Result :=
  .next (complete s)

/-- ABORT closes any open invocation, without the emptiness check; with none open it is a no-op (40_sequencing R152). -/
def execAbort (s : State) : Result :=
  if s.active = .none then .next (complete s)
  else .next (complete (closeInvocation s))

/-- FINISH raises SEQUENCE with none open; otherwise it closes the invocation, and raises INVALID_INPUT after the close
if no RUN completed in it (40_sequencing R153). -/
def execFinish (s : State) : Result :=
  if s.active = .none then failCommand .finish .sequence s
  else if s.nonempty then .next (complete (closeInvocation s))
  else failCommand .finish .invalidInput (closeInvocation s)

/-- SRST returns every register and hidden bit to its reset value and leaves the buffer unchanged. BUSY is then 0 and
DONE stays 0 (40_sequencing R150, R155; 70_reset R322). -/
def execSrst (s : State) : Result :=
  .next (resetRegisters s)

end Sys2Proof.Machine
end

