-- ==== Sys2Proof/Machine/Generators.lean ====
section
/-! DEFINITION. The coefficient generators GEN_SP and GEN_BQ (45_coefficients R255 to R263). Their bit results are the
open functions Config.genSP and Config.genBQ (00_scope R9). -/

namespace Sys2Proof.Machine

/-- sp_valid(v): in binary32 the valid SP_W patterns are 0x00000001 to 0x40490FDA (45_coefficients R259). -/
def spValid (v : Word) : Bool :=
  decide (0x00000001 ≤ v.toNat) && decide (v.toNat ≤ 0x40490FDA)

/-- bq_valid(FS, FC, Q): FC finite, FC > 0, 2*FC < FS exactly with FS signed, Q finite, Q > 0 (45_coefficients R261).
Real values are compared in units of 2^-149. -/
def bqValid (fs fc q : Word) : Bool :=
  isFinite fc && decide (0 < units fc) && decide (2 * units fc < fs.toInt * 2 ^ 149) && isFinite q &&
    decide (0 < units q)

/-- GEN_SP: COEF_LOCKED while SP is open, then INVALID_PARAMETER, else SP_ALPHA (45_coefficients R257). -/
def execGenSp (s : State) : Result :=
  if s.active = .sp then failCommand .genSp .coefLocked s
  else if spValid s.spW then .next (complete { s with spAlpha := Config.genSP s.spW })
  else failCommand .genSp .invalidParameter s

/-- GEN_BQ: COEF_LOCKED while BQ is open, then INVALID_PARAMETER, else all five coefficients (45_coefficients R260). -/
def execGenBq (s : State) : Result :=
  if s.active = .bq then failCommand .genBq .coefLocked s
  else if bqValid s.fs s.fc s.q then .next (complete { s with bqCoeffs := Config.genBQ s.fs s.fc s.q })
  else failCommand .genBq .invalidParameter s

end Sys2Proof.Machine
end

