-- ==== Sys2Proof/Machine/Integrator.lean ====
section
/-! DEFINITION. The integrator low-pass kernel, INIT_INT and RUN_INT (41_integrator R170, R171). -/

namespace Sys2Proof.Machine

/-- One sample: `y[n] = x[n] + y[n-1]`; y is both the output and the new INT_Y1 (41_integrator R171). -/
def intSample (y1 x : Word) : Word × Word :=
  (fadd x y1, fadd x y1)

/-- The sample loop of RUN_INT. -/
def intLoop (s : State) : Except Nat State :=
  (sweep intSample s.blockSize 0 s.intY1 s.mem).map fun r => { s with intY1 := r.1, mem := r.2 }

/-- INIT_INT (41_integrator R170). -/
def execInitInt (s : State) : Result :=
  initCommand .initInt .int s

/-- RUN_INT (41_integrator R171). -/
def execRunInt (s : State) : Result :=
  runCommand .runInt .int intLoop s

end Sys2Proof.Machine
end

