-- ==== Sys2Proof/Machine/SinglePole.lean ====
section
/-! DEFINITION. The single-pole IIR low-pass kernel, INIT_SP and RUN_SP with the seed (42_single_pole R190 to R192). -/

namespace Sys2Proof.Machine

/-- One sample: `d = x - y1`, `p = alpha * d`, `y = y1 + p`, each rounded (42_single_pole R192). DESIGN CHOICE,
log entry 30: R192's corner case for alpha = 0 has y = y1; its pseudocode gives +0.0 from y1 = -0.0 where p is +0.0. The
pseudocode is followed, as R191 does for the first sample. -/
def spSample (alpha y1 x : Word) : Word × Word :=
  (fadd y1 (fmul alpha (fsub x y1)), fadd y1 (fmul alpha (fsub x y1)))

/-- SP_Y1 as the loop starts: the first RUN_SP of an invocation takes BUF[0] (42_single_pole R191); none where that
word is unwritten. -/
def spSeed (s : State) : Option Word :=
  if s.spSeeded then some s.spY1 else readBuf s.mem 0

/-- The seed and the sample loop of RUN_SP (42_single_pole R192). -/
def spLoop (s : State) : Except Nat State :=
  match spSeed s with
  | none => .error 0
  | some y0 =>
    (sweep (spSample s.spAlpha) s.blockSize 0 y0 s.mem).map fun r =>
      { s with spY1 := r.1, spSeeded := true, mem := r.2 }

/-- INIT_SP (42_single_pole R190). -/
def execInitSp (s : State) : Result :=
  initCommand .initSp .sp s

/-- RUN_SP (42_single_pole R192). -/
def execRunSp (s : State) : Result :=
  runCommand .runSp .sp spLoop s

end Sys2Proof.Machine
end

