-- ==== Sys2Proof/Machine/Dispatch.lean ====
section
/-! DEFINITION. exec: each command's meaning, one arm per constructor (30_encoding R123). A meaning performs the
command and completes it, as the core step of 40_sequencing R150 does. -/

namespace Sys2Proof.Machine

def exec (i : Instr) (s : State) : Host.Outcome State Fault Refusal :=
  match i with
  | .nop => Sys2Proof.Machine.execNop s
  | .initInt => Sys2Proof.Machine.execInitInt s
  | .initSp => Sys2Proof.Machine.execInitSp s
  | .initBq => Sys2Proof.Machine.execInitBq s
  | .initComb => Sys2Proof.Machine.execInitComb s
  | .runInt => Sys2Proof.Machine.execRunInt s
  | .runSp => Sys2Proof.Machine.execRunSp s
  | .runBq => Sys2Proof.Machine.execRunBq s
  | .runComb => Sys2Proof.Machine.execRunComb s
  | .finish => Sys2Proof.Machine.execFinish s
  | .abort => Sys2Proof.Machine.execAbort s
  | .genSp => Sys2Proof.Machine.execGenSp s
  | .genBq => Sys2Proof.Machine.execGenBq s
  | .srst => Sys2Proof.Machine.execSrst s

end Sys2Proof.Machine
end

