-- ==== Sys2Proof/Machine/Sequencer.lean ====
section
/-! DEFINITION. The core step (40_sequencing R150), what each agenda entry does (00_scope R8), and how an instruction
word is placed where the core takes it from. Step.lean only calls these. -/

namespace Sys2Proof.Machine

/-- The core performs the latched word `w` (40_sequencing R150): a word that does not decode raises ILLEGAL_COMMAND with
ERRINFO = w and completes (30_encoding R124). -/
def performWord (w : Word) (s : State) : Result :=
  match decode w with
  | .rejected _ => .next (complete (raiseError .illegalCommand w s))
  | .command i => exec i s

/-- The core's turn (00_scope R8, 40_sequencing R150): it has no step while no command is latched, and while rst_n is
low it is in its reset state (70_reset R320; log entry 11). -/
def coreStep (s : State) : Result :=
  if !s.rstN then .next (pinReset s)
  else
    match s.cmdLatch with
    | none => .next s
    | some w => performWord w s

/-- What one agenda entry does. -/
def perform (e : Event) (s : State) : Result :=
  match e with
  | .coreTurn => coreStep s
  | .access a => busAccess a s
  | .assertReset => .next (pinReset s)
  | .releaseReset => .next (pinRelease s)

/-- The next entry of the agenda happens. With no entry left it is the core's turn: a latched command is performed
eventually (70_reset R335), and an idle CORE keeps all its state (60_exceptions R305). Log entry 1. -/
def advance (s : State) : Result :=
  match s.agenda with
  | [] => coreStep s
  | e :: rest => perform e { s with agenda := rest }

/-- `s` with the word latched as a CMD write latches it (10_state R35), rst_n high, and the core's turn next. -/
def placeWord (w : Word) (s : State) : State :=
  { s with rstN := true, cmdLatch := some w, agenda := .coreTurn :: s.agenda }

end Sys2Proof.Machine
end

