-- ==== Sys2Proof/Machine/Step.lean ====
section
/-! DEFINITION. One step of the machine: one bus transaction, one core step, or one change of rst_n (00_scope R8,
70_reset R321). -/

namespace Sys2Proof.Machine

/-- One step. -/
def step : State → Host.Outcome State Fault Refusal :=
  advance

/-- `s` with the instruction `w` of `nbits` bits placed where the very next step takes it from: the command latch
(log entry 2). -/
def State.withFetchWord (s : State) (nbits w : Nat) : State :=
  placeWord (tableWord nbits w) s

end Sys2Proof.Machine
end

