-- ==== Sys2Proof/Machine/HostProgram.lean ====
section
/-! DEFINITION. The host's side, which is not the CORE's state: the notation of host programs as agenda entries
(30_encoding R135 to R137) and the framing of a Signal into blocks (20_memory R88, R89). -/

namespace Sys2Proof.Machine

/-! ## Host notation (30_encoding R135, R136) -/

/-- `wr NAME, v`. -/
def hostWr (r : Reg) (v : Word) : Event :=
  .access (.write (BitVec.ofNat 17 (regOffset r)) 4 v)

/-- `wr BUF[i], v`. -/
def hostWrBuf (i : Nat) (v : Word) : Event :=
  .access (.write (BitVec.ofNat 17 (0x10000 + 4 * i)) 4 v)

/-- `rd NAME`. -/
def hostRd (r : Reg) : Event :=
  .access (.read (BitVec.ofNat 17 (regOffset r)) 4)

/-- `rd BUF[i]`. -/
def hostRdBuf (i : Nat) : Event :=
  .access (.read (BitVec.ofNat 17 (0x10000 + 4 * i)) 4)

/-- `cmd` with a command word. -/
def hostCmd (w : Word) : Event :=
  hostWr .cmd w

/-- `wait` after a command that the core performs after `busyPolls` polls have seen BUSY = 1: the poll that follows
the core's turn is the first to see BUSY = 0 and ends the loop (30_encoding R136, R137). -/
def hostWait (busyPolls : Nat) : List Event :=
  List.replicate busyPolls (hostRd .status) ++ [.coreTurn, hostRd .status]

/-- `do` with a command word: `cmd`, then `wait`. -/
def hostDo (w : Word) (busyPolls : Nat) : List Event :=
  hostCmd w :: hostWait busyPolls

/-- `clr`. -/
def hostClr : Event :=
  hostWr .status 0x0000000E#32

/-- `put v0, ..., v(B-1)`. -/
def hostPut (vs : List Word) : List Event :=
  vs.mapIdx hostWrBuf

/-- `get`, of a buffer of `n` words. -/
def hostGet (n : Nat) : List Event :=
  (List.range n).map hostRdBuf

/-- `ldbq b0, b1, b2, a1, a2`. -/
def hostLdbq (c : BqCoeffs) : List Event :=
  [hostWr .b0 c.b0, hostWr .b1 c.b1, hostWr .b2 c.b2, hostWr .a1 c.a1, hostWr .a2 c.a2]

/-! ## Framing (20_memory R88, R89) -/

/-- How many blocks frame `len` samples: `ceil(len / B)` (20_memory R88). -/
def blockCount (blockLen len : Nat) : Nat :=
  (len + blockLen - 1) / blockLen

/-- frame(S): blocks of B samples in order, the last one padded on the right with +0.0 (20_memory R88). -/
def frame (blockLen : Nat) (samples : List Word) : List (List Word) :=
  (List.range (blockCount blockLen samples.length)).map fun k =>
    (List.range blockLen).map fun j => samples.getD (k * blockLen + j) 0#32

/-- unframe(blocks): every block in order, padding included (20_memory R89). -/
def unframe (blocks : List (List Word)) : List Word :=
  blocks.flatten

end Sys2Proof.Machine
end

