-- ==== Sys2Proof/Reference.lean ====
section
/-! DEFINITION. The reals behind the arithmetic: real(v) and rnd(r) (00_scope R12), and the real functions that the
generators approximate (45_coefficients R258, R263). The machine does not run these: they are the terms in which
claims about rounding and about the reference generators are stated. -/

namespace Sys2Proof.Machine

/-- real(v), the real number that a finite binary32 denotes (00_scope R12). -/
noncomputable def realOf (v : Word) : ℝ :=
  (units v : ℝ) / 2 ^ 149

/-- The least magnitude that rounds to infinity: the largest finite value and half a unit in its last place. -/
noncomputable def overflowBound : ℝ :=
  (2 ^ 25 - 1) * 2 ^ 103

/-- `v` is rnd(x): the nearest binary32, ties to even, with overflow to infinity (00_scope R12). A nonzero x gives its
sign to v. -/
def IsRounded (x : ℝ) (v : Word) : Prop :=
  (x ≠ 0 → signBit v = decide (x < 0)) ∧
  (|x| < overflowBound →
    isFinite v = true ∧
    ∀ u : Word, isFinite u = true →
      |realOf v - x| ≤ |realOf u - x| ∧
      (realOf u ≠ realOf v → |realOf v - x| = |realOf u - x| → v.getLsbD 0 = false)) ∧
  (overflowBound ≤ |x| → isInf v = true)

/-- genSP_real (45_coefficients R258). -/
noncomputable def genSpReal (w : ℝ) : ℝ :=
  -(1 - Real.cos w) + Real.sqrt ((1 - Real.cos w) ^ 2 + 2 * (1 - Real.cos w))

/-- omega of genBQ (45_coefficients R263). -/
noncomputable def bqOmega (fs fc : ℝ) : ℝ :=
  2 * Real.pi * fc / fs

/-- alpha of genBQ, the source's formula as written (45_coefficients R263, R265). -/
noncomputable def bqAlpha (fs fc q : ℝ) : ℝ :=
  Real.sin (bqOmega fs fc) * Real.sinh (Real.log 2 / 2 * q * bqOmega fs fc / Real.sin (bqOmega fs fc))

/-- b0 (and b2) of genBQ over the reals (45_coefficients R263). -/
noncomputable def bqB0Real (fs fc q : ℝ) : ℝ :=
  (1 - Real.cos (bqOmega fs fc)) / 2 / (1 + bqAlpha fs fc q)

/-- b1 of genBQ over the reals (45_coefficients R263). -/
noncomputable def bqB1Real (fs fc q : ℝ) : ℝ :=
  (1 - Real.cos (bqOmega fs fc)) / (1 + bqAlpha fs fc q)

/-- b2 of genBQ over the reals (45_coefficients R263). -/
noncomputable def bqB2Real (fs fc q : ℝ) : ℝ :=
  (1 - Real.cos (bqOmega fs fc)) / 2 / (1 + bqAlpha fs fc q)

/-- a1 of genBQ over the reals (45_coefficients R263). -/
noncomputable def bqA1Real (fs fc q : ℝ) : ℝ :=
  -2 * Real.cos (bqOmega fs fc) / (1 + bqAlpha fs fc q)

/-- a2 of genBQ over the reals (45_coefficients R263). -/
noncomputable def bqA2Real (fs fc q : ℝ) : ℝ :=
  (1 - bqAlpha fs fc q) / (1 + bqAlpha fs fc q)

/-- A generator function is the reference of 45_coefficients R258. The machine does not assume it of Config.genSP: a
claim that needs it names it (93 U4). -/
def IsReferenceGenSp (g : Word → Word) : Prop :=
  ∀ v, spValid v = true → IsRounded (genSpReal (realOf v)) (g v)

/-- A generator function is the reference of 45_coefficients R263. The machine does not assume it of Config.genBQ: a
claim that needs it names it (93 U5). -/
def IsReferenceGenBq (g : Word → Word → Word → BqCoeffs) : Prop :=
  ∀ fs fc q, bqValid fs fc q = true →
    IsRounded (bqB0Real fs.toInt (realOf fc) (realOf q)) (g fs fc q).b0 ∧
    IsRounded (bqB1Real fs.toInt (realOf fc) (realOf q)) (g fs fc q).b1 ∧
    IsRounded (bqB2Real fs.toInt (realOf fc) (realOf q)) (g fs fc q).b2 ∧
    IsRounded (bqA1Real fs.toInt (realOf fc) (realOf q)) (g fs fc q).a1 ∧
    IsRounded (bqA2Real fs.toInt (realOf fc) (realOf q)) (g fs fc q).a2

end Sys2Proof.Machine
end

