-- ==== Sys2Proof/Machine/Block.lean ====
section
/-! DEFINITION. A block as a list of samples, in the terms that claims about the RUN commands use (10_state R53,
20_memory R87): which block the buffer holds, the buffer with a block written, and a recurrence run over a list. -/

namespace Sys2Proof.Machine

/-- The buffer holds the block `xs` from BUF[0] on. -/
abbrev holdsBlock (m : Memory) (xs : List Word) : Prop :=
  ∀ i, i < xs.length → readBuf m i = xs[i]?

/-- The memory with the words `ys` written from BUF[i] on, in ascending order. -/
def writeBlock (m : Memory) (i : Nat) (ys : List Word) : Memory :=
  match ys with
  | [] => m
  | y :: rest => writeBlock (writeBuf m i y) (i + 1) rest

/-- A per-sample recurrence run over a list of samples in ascending order: the history after the last sample, and the
outputs (20_memory R87). -/
def scan {H : Type} (f : H → Word → H × Word) (h : H) (xs : List Word) : H × List Word :=
  match xs with
  | [] => (h, [])
  | x :: rest => ((scan f (f h x).1 rest).1, (f h x).2 :: (scan f (f h x).1 rest).2)

end Sys2Proof.Machine
end

