-- ==== Sys2Proof/Safety.lean ====
section
/-! DEFINITION. What counts as a final run (70_reset R341), the invariant of the machine (10_state R34 to R37, R53, R58),
and predicates that claims use. -/

namespace Sys2Proof.Machine

/-- The end of a run: no transaction is left, no command is latched, no model fault is recorded (70_reset R341). -/
def Final (s : State) : Prop :=
  s.agenda = [] ∧ s.busy = false ∧ s.faults = []

/-- What every step keeps. -/
structure MachineInv (s : State) : Prop where
  /-- BLOCK_SIZE is in its range (00_scope R9). -/
  blockSize_pos : 1 ≤ s.blockSize
  blockSize_le : s.blockSize ≤ 16384
  /-- The buffer's bytes are in canonical form. -/
  mem_wf : Memory.wf s.mem
  /-- Only the offsets of the buffer hold bytes (20_memory R80, R81). -/
  mem_inside : ∀ c ∈ s.mem, bufBase ≤ c.1 ∧ c.1 < bufBase + 4 * s.blockSize
  /-- A buffer word is written as a whole or not at all (20_memory R92). -/
  mem_words : ∀ i, (readBuf s.mem i).isSome ∨ ∀ k, k < 4 → readByte s.mem (bufAddr i + k) = none
  /-- A kernel that is not active holds its reset state (10_state R58). -/
  int_clear : s.active ≠ .int → s.intY1 = 0#32
  sp_clear : s.active ≠ .sp → s.spY1 = 0#32
  bq_clear : s.active ≠ .bq → s.bqHist = BqHist.zero
  comb_clear : s.active ≠ .comb → s.combHist = CombHist.zero
  /-- NONEMPTY is 0 with no invocation open (10_state R34). -/
  nonempty_open : s.nonempty = true → s.active ≠ .none
  /-- SP_SEEDED says that a RUN_SP has completed in the open invocation (10_state R34, R58; 42_single_pole R191). -/
  seeded_iff : s.spSeeded = true ↔ s.active = .sp ∧ s.nonempty = true
  /-- ERRCODE and ERRINFO are 0 while ERR = 0 (10_state R36, R37). -/
  err_clear : s.err = false → s.errCode = .none ∧ s.errInfo = 0#32
  /-- A recorded error has a code (60_exceptions R280). -/
  err_code : s.err = true → s.errCode ≠ .none
  /-- No command is latched while rst_n is low (70_reset R320, R321). -/
  reset_idle : s.rstN = false → s.cmdLatch = none

/-- The registers of 10_state R31 as R60 tables them after a reset, for a machine of `n` words. -/
def RegistersAtReset (n : Nat) (s : State) : Prop :=
  readReg s .id = 0x46430007#32 ∧ readReg s .ctrl = 0#32 ∧ readReg s .status = 0#32 ∧ s.cmdLatch = none ∧
  readReg s .errcode = 0#32 ∧ readReg s .errinfo = 0#32 ∧ readReg s .blksz = BitVec.ofNat 32 n ∧
  readReg s .blkcnt = 0#32 ∧ readReg s .fs = 0#32 ∧ readReg s .fc = 0#32 ∧ readReg s .q = 0x3F800000#32 ∧
  readReg s .spW = 0#32 ∧ readReg s .spAlpha = 0x3F800000#32 ∧ readReg s .b0 = 0x3F800000#32 ∧
  readReg s .b1 = 0#32 ∧ readReg s .b2 = 0#32 ∧ readReg s .a1 = 0#32 ∧ readReg s .a2 = 0#32 ∧
  readReg s .combG1 = 0x3E000000#32 ∧ readReg s .combG2 = 0x3F172A5A#32 ∧ readReg s .intY1 = 0#32 ∧
  readReg s .spY1 = 0#32 ∧ readReg s .bqX1 = 0#32 ∧ readReg s .bqX2 = 0#32 ∧ readReg s .bqY1 = 0#32 ∧
  readReg s .bqY2 = 0#32 ∧ readReg s .combX1 = 0#32 ∧ readReg s .combX2 = 0#32 ∧ readReg s .combX3 = 0#32 ∧
  readReg s .combX4 = 0#32 ∧ readReg s .combX5 = 0#32 ∧ readReg s .combY1 = 0#32 ∧ readReg s .combY2 = 0#32 ∧
  readReg s .combY3 = 0#32 ∧ s.irq = false

/-- Every register of 10_state R31 with its offset and what a read of it returns, row by row. The bits of CTRL, STATUS
and ERRCODE are those of R33, R34 and R36. -/
def registerTable (s : State) : List (Reg × Nat × Word) :=
  [(.id, 0x000, 0x46430007#32), (.ctrl, 0x004, ctrlWord s), (.status, 0x008, statusWord s), (.cmd, 0x00C, 0#32),
    (.errcode, 0x010, errCodeWord s), (.errinfo, 0x014, s.errInfo), (.blksz, 0x018, BitVec.ofNat 32 s.blockSize),
    (.blkcnt, 0x01C, s.blkcnt)] ++
  [(.fs, 0x020, s.fs), (.fc, 0x024, s.fc), (.q, 0x028, s.q), (.spW, 0x02C, s.spW), (.spAlpha, 0x030, s.spAlpha),
    (.b0, 0x034, s.bqCoeffs.b0), (.b1, 0x038, s.bqCoeffs.b1), (.b2, 0x03C, s.bqCoeffs.b2),
    (.a1, 0x040, s.bqCoeffs.a1), (.a2, 0x044, s.bqCoeffs.a2), (.combG1, 0x048, s.combG1), (.combG2, 0x04C, s.combG2)] ++
  [(.intY1, 0x050, s.intY1), (.spY1, 0x054, s.spY1), (.bqX1, 0x058, s.bqHist.x1), (.bqX2, 0x05C, s.bqHist.x2),
    (.bqY1, 0x060, s.bqHist.y1), (.bqY2, 0x064, s.bqHist.y2), (.combX1, 0x068, s.combHist.x1),
    (.combX2, 0x06C, s.combHist.x2), (.combX3, 0x070, s.combHist.x3), (.combX4, 0x074, s.combHist.x4),
    (.combX5, 0x078, s.combHist.x5), (.combY1, 0x07C, s.combHist.y1), (.combY2, 0x080, s.combHist.y2),
    (.combY3, 0x084, s.combHist.y3)]

/-- Every word of the block is written, so that a RUN reads no unwritten word (20_memory R86, R87). -/
abbrev BlockWritten (s : State) : Prop :=
  ∀ i, i < s.blockSize → (readBuf s.mem i).isSome

/-- Two states with the same invocation open: the same kernel, its own coefficients and its own history. What stands
between two RUNs of one invocation keeps this (43_biquad R212): the host reading and refilling the buffer, loading another
kernel's coefficients (45_coefficients R250), or running the other generator (R257, R260). -/
def SameKernel (s u : State) : Prop :=
  u.active = s.active ∧ u.blockSize = s.blockSize ∧
  (s.active = .int → u.intY1 = s.intY1) ∧
  (s.active = .sp → u.spAlpha = s.spAlpha ∧ u.spY1 = s.spY1 ∧ u.spSeeded = s.spSeeded) ∧
  (s.active = .bq → u.bqCoeffs = s.bqCoeffs ∧ u.bqHist = s.bqHist) ∧
  (s.active = .comb →
    u.combG1 = s.combG1 ∧ u.combG2 = s.combG2 ∧ u.combVar = s.combVar ∧ u.combHist = s.combHist)

/-- From `s`, one invocation runs the command `i` over the blocks `bs` in order, the outputs being `os`, and leaves `t`:
before each RUN the buffer holds that block, and after it the block's outputs (20_memory R88, 70_reset R325). -/
inductive FiltersBlocks (i : Instr) : State → List (List Word) → List (List Word) → State → Prop where
  | nil (s : State) : FiltersBlocks i s [] [] s
  | cons {s u v t : State} {b o : List Word} {bs os : List (List Word)} (same : SameKernel s u)
      (len : b.length = u.blockSize) (input : holdsBlock u.mem b) (run : exec i u = .next v)
      (outLen : o.length = b.length) (output : holdsBlock v.mem o) (rest : FiltersBlocks i v bs os t) :
      FiltersBlocks i s (b :: bs) (o :: os) t

end Sys2Proof.Machine
end

