-- ==== Sys2Proof/Certificates/Slice0/Obligations.lean ====
section
/-! DEFINITION. The statements for the provers. Each formalises rules of spec/ that its docstring names. None rests on a
free value; where a clause is the model's choice, the docstring says so and names the log entry. -/

open Sys2Proof Sys2Proof.Machine

/-! ## Encoding -/

/-- Every row of 30_encoding R123: the written-out command word decodes to the row's command. -/
def Obligations.OpcodeTableDecodes : Prop :=
  decode 0x00000000#32 = .command .nop ∧ decode 0x10000000#32 = .command .initInt ∧
  decode 0x11000000#32 = .command .initSp ∧ decode 0x12000000#32 = .command .initBq ∧
  decode 0x13000000#32 = .command .initComb ∧ decode 0x20000000#32 = .command .runInt ∧
  decode 0x21000000#32 = .command .runSp ∧ decode 0x22000000#32 = .command .runBq ∧
  decode 0x23000000#32 = .command .runComb ∧ decode 0x30000000#32 = .command .finish ∧
  decode 0x31000000#32 = .command .abort ∧ decode 0x40000000#32 = .command .genSp ∧
  decode 0x41000000#32 = .command .genBq ∧ decode 0xF0000000#32 = .command .srst

/-- Decoding and encoding agree on every word: a word decodes to a command exactly when it is that command's word
(30_encoding R120, R123, R124). -/
def Obligations.WordDecodesIffItIsTheEncoding : Prop :=
  ∀ (w : Word) (i : Instr), decode w = .command i ↔ w = encode i

/-- 30_encoding R124: a word with a legal OPC and RSVD = 0 runs as its row's command; every other word raises
ILLEGAL_COMMAND with ERRINFO = w and completes with no other effect. -/
def Obligations.IllegalWordOnlyRecordsIllegalCommand : Prop :=
  ∀ (w : Word) (s : State),
    ((w.extractLsb' 24 8 ∈ legalOpcodes ∧ w.extractLsb' 0 24 = 0#24) →
      ∃ i, encode i = w ∧ performWord w s = exec i s) ∧
    (¬ (w.extractLsb' 24 8 ∈ legalOpcodes ∧ w.extractLsb' 0 24 = 0#24) →
      performWord w s = .next { raiseError .illegalCommand w s with done := true, cmdLatch := none })

/-! ## The step -/

/-- A step runs the latched command, or performs the host's next transaction (00_scope R8, 40_sequencing R150): with
rst_n high and the core's turn next, a latched word that decodes runs as exec says, a latched word that does not decode
is illegal, and with no word latched the core has no step. A bus access that is next is busAccess of it. Each entry is
taken off the agenda and nothing is added. That the order stands in the agenda, and that an empty agenda is the core's
turn, are the model's choices (log entry 1). -/
def Obligations.StepRunsTheLatchedCommand : Prop :=
  ∀ (s : State) (rest : List Event) (w : Word) (i : Instr) (r : DecodeReject), s.rstN = true →
    (s.cmdLatch = some w → decode w = .command i → s.agenda = [] → step s = exec i s) ∧
    (s.cmdLatch = some w → decode w = .command i → s.agenda = .coreTurn :: rest →
      step s = exec i { s with agenda := rest }) ∧
    (s.cmdLatch = some w → decode w = .rejected r → s.agenda = [] →
      step s = .next (complete (raiseError .illegalCommand w s))) ∧
    (s.cmdLatch = some w → decode w = .rejected r → s.agenda = .coreTurn :: rest →
      step s = .next (complete (raiseError .illegalCommand w { s with agenda := rest }))) ∧
    (s.cmdLatch = none → s.agenda = [] → step s = .next s) ∧
    (s.cmdLatch = none → s.agenda = .coreTurn :: rest → step s = .next { s with agenda := rest }) ∧
    ∀ a : Access, s.agenda = .access a :: rest → step s = busAccess a { s with agenda := rest }

/-- How a command is accepted (10_state R35; 20_memory R82, R84): while idle a write to CMD latches the word and
changes nothing else but the bus answer, and a read of CMD returns 0; while busy the write is dropped with
BUSY_WRITE. That the bus answers the dropped write with OKAY is the model's reading (log entry 18). -/
def Obligations.CmdWriteLatchesOnlyWhileIdle : Prop :=
  ∀ (s : State) (v w : Word), s.rstN = true →
    (s.cmdLatch = none →
      busAccess (.write 0x0000C#17 4 v) s = .next { s with cmdLatch := some v, resp := .okay } ∧
      busAccess (.read 0x0000C#17 4) s = .next { s with resp := .data 0#32 }) ∧
    (s.cmdLatch = some w →
      busAccess (.write 0x0000C#17 4 v) s =
        .next { raiseError .busyWrite 0x0000000C#32 s with resp := .okay })

/-! ## Reset -/

/-- 10_state R60: after reset, after rst_n is asserted and after SRST, every register, CMDLATCH and irq has its tabled
value; rst_n leaves every buffer word unwritten, SRST leaves the buffer unchanged, and neither clears a model fault
record. -/
def Obligations.ResetLeavesTheTabledValues : Prop :=
  (RegistersAtReset Config.blockSize State.reset ∧ State.reset.mem = [] ∧ State.reset.rstN = true) ∧
  ∀ s : State,
    (RegistersAtReset s.blockSize (pinReset s) ∧ (∀ i, readBuf (pinReset s).mem i = none) ∧
      (pinReset s).faults = s.faults) ∧
    ∃ t, exec .srst s = .next t ∧ RegistersAtReset s.blockSize t ∧ t.mem = s.mem ∧ t.faults = s.faults

/-- SRST in full (40_sequencing R155, 70_reset R322): the reset state, but for the buffer, rst_n, BLOCK_SIZE, the bus
port, the fault records and the model's own fields (that these last outlive it is log entry 11). DONE stays 0. -/
def Obligations.SrstIsResetKeepingTheBuffer : Prop :=
  ∀ s : State, exec .srst s =
    .next { State.reset with
      rstN := s.rstN, blockSize := s.blockSize, mem := s.mem, agenda := s.agenda, resp := s.resp,
      faults := s.faults, draws := s.draws }

/-- rst_n low and high again (70_reset R320, R321): asserting it discards a latched command, leaves every register at
its reset value and every buffer word unwritten; a bus access while it is low has no meaning; after it rises the CORE is
in the same state, and idle. That an access is refused, and that the pin is two events, are the model's choices (log
entry 11). -/
def Obligations.PinResetDiscardsEverything : Prop :=
  ∀ (s : State) (rest : List Event), s.agenda = .assertReset :: rest →
    ∃ t, step s = .next t ∧ t.cmdLatch = none ∧ t.rstN = false ∧ RegistersAtReset s.blockSize t ∧
      (∀ i, readBuf t.mem i = none) ∧ t.agenda = rest ∧
      (∀ a rest', rest = .access a :: rest' → step t = .refused (.accessDuringReset a.off.toNat)) ∧
      (∀ rest', rest = .releaseReset :: rest' → step t = .next { t with rstN := true, agenda := rest' })

/-! ## Status, control and interrupt -/

/-- STATUS bit by bit (10_state R34): BUSY 0, DONE 1, ERR 2, ERR_OVF 3, NONEMPTY 4, SP_SEEDED 5, ACTIVE [10:8] with
its codes, IRQ 16, and every other bit 0. -/
def Obligations.StatusWordLayout : Prop :=
  ∀ s : State,
    (statusWord s).getLsbD 0 = s.cmdLatch.isSome ∧ (statusWord s).getLsbD 1 = s.done ∧
    (statusWord s).getLsbD 2 = s.err ∧ (statusWord s).getLsbD 3 = s.errOvf ∧
    (statusWord s).getLsbD 4 = s.nonempty ∧ (statusWord s).getLsbD 5 = s.spSeeded ∧
    (statusWord s).extractLsb' 6 2 = 0#2 ∧
    (statusWord s).extractLsb' 8 3 =
      (match s.active with | .none => 0#3 | .int => 1#3 | .sp => 2#3 | .bq => 3#3 | .comb => 4#3) ∧
    (statusWord s).extractLsb' 11 5 = 0#5 ∧ (statusWord s).getLsbD 16 = s.irq ∧
    (statusWord s).extractLsb' 17 15 = 0#15

/-- The acknowledgement (10_state R34, 60_exceptions R287): a write to STATUS, busy or not, clears each of DONE, ERR and
ERR_OVF whose bit is 1, zeroes ERRCODE and ERRINFO with ERR, and changes nothing else but the bus answer. -/
def Obligations.StatusWriteClearsTheMarkedBits : Prop :=
  ∀ (s : State) (v : Word), s.rstN = true →
    busAccess (.write 0x00008#17 4 v) s =
      .next { s with
        resp := .okay
        done := s.done && !v.getLsbD 1
        err := s.err && !v.getLsbD 2
        errOvf := s.errOvf && !v.getLsbD 3
        errCode := if v.getLsbD 2 then .none else s.errCode
        errInfo := if v.getLsbD 2 then 0#32 else s.errInfo }

/-- 60_exceptions R283: irq is a level, (DONE and IE_DONE) or (ERR and IE_ERR), and STATUS.IRQ mirrors it; all as a host
reads the bits of STATUS and CTRL. -/
def Obligations.IrqIsTheEnabledLevel : Prop :=
  ∀ s : State,
    s.irq = (((readReg s .status).getLsbD 1 && (readReg s .ctrl).getLsbD 0) ||
      ((readReg s .status).getLsbD 2 && (readReg s .ctrl).getLsbD 1)) ∧
    (readReg s .status).getLsbD 16 = s.irq

/-- A write to CTRL while idle (10_state R33, 45_coefficients R251): if it would change COMB_VAR while COMB is open it is
dropped in full with COEF_LOCKED and ERRINFO 4; otherwise CTRL then reads as the written word with its reserved bits
0, and nothing else changes but the bus answer, IE_DONE, IE_ERR and COMB_VAR. CTRL bit by bit in every state: IE_DONE 0,
IE_ERR 1, COMB_VAR [5:4] with 0 FULL, 1 FF_ONLY, 2 FB_ONLY, 3 PASS (44_comb R230), every other bit 0. -/
def Obligations.CtrlWriteObeysTheVariantLock : Prop :=
  (∀ s : State,
    (ctrlWord s).getLsbD 0 = s.ieDone ∧ (ctrlWord s).getLsbD 1 = s.ieErr ∧ (ctrlWord s).extractLsb' 2 2 = 0#2 ∧
    (ctrlWord s).extractLsb' 4 2 =
      (match s.combVar with | .full => 0#2 | .ffOnly => 1#2 | .fbOnly => 2#2 | .pass => 3#2) ∧
    (ctrlWord s).extractLsb' 6 26 = 0#26) ∧
  ∀ (s : State) (v : Word), s.rstN = true → s.cmdLatch = none →
    if s.active = .comb ∧ v.extractLsb' 4 2 ≠ (ctrlWord s).extractLsb' 4 2 then
      busAccess (.write 0x00004#17 4 v) s = .next { raiseError .coefLocked 0x00000004#32 s with resp := .okay }
    else
      ∃ t, busAccess (.write 0x00004#17 4 v) s = .next t ∧ readReg t .ctrl = v &&& 0x00000033#32 ∧
        t.ieDone = v.getLsbD 0 ∧ t.ieErr = v.getLsbD 1 ∧
        (v.extractLsb' 4 2 = 0#2 → t.combVar = .full) ∧ (v.extractLsb' 4 2 = 1#2 → t.combVar = .ffOnly) ∧
        (v.extractLsb' 4 2 = 2#2 → t.combVar = .fbOnly) ∧ (v.extractLsb' 4 2 = 3#2 → t.combVar = .pass) ∧
        t = { s with ieDone := t.ieDone, ieErr := t.ieErr, combVar := t.combVar, resp := .okay }

/-! ## Errors -/

/-- 60_exceptions R285, R288: the first error since ERR was last clear writes ERRCODE and ERRINFO, whatever ERR_OVF is;
a later one sets ERR_OVF and is otherwise lost. Nothing else changes. What a host reads of ERRCODE in every state is
the code of 60_exceptions R280 in bits [3:0], bits [31:4] being 0 (10_state R36). -/
def Obligations.FirstErrorIsKept : Prop :=
  (∀ s : State, readReg s .errcode =
    match s.errCode with
    | .none => 0x00000000#32
    | .invalidParameter => 0x00000001#32
    | .invalidInput => 0x00000002#32
    | .illegalCommand => 0x00000003#32
    | .sequence => 0x00000004#32
    | .coefLocked => 0x00000005#32
    | .busyWrite => 0x00000006#32) ∧
  ∀ (s : State) (code : ErrCode) (info : Word),
    (s.err = false → raiseError code info s = { s with err := true, errCode := code, errInfo := info }) ∧
    (s.err = true → raiseError code info s = { s with errOvf := true })

/-- No partial success (60_exceptions R285, R286): a command other than FINISH and SRST after which an error is newly
recorded (ERR or ERR_OVF newly set) has changed nothing but the capture and its own completion. -/
def Obligations.FailedCommandChangesNothingElse : Prop :=
  ∀ (i : Instr) (s t : State), i ≠ .finish → i ≠ .srst → exec i s = .next t →
    (s.err = false ∧ t.err = true) ∨ (s.errOvf = false ∧ t.errOvf = true) →
    ∃ code, code ≠ .none ∧ t = { raiseError code (encode i) s with done := true, cmdLatch := none }

/-! ## Control and lifecycle commands -/

/-- 40_sequencing R151: NOP completes and leaves everything else unchanged. -/
def Obligations.NopOnlyCompletes : Prop :=
  ∀ s : State, exec .nop s = .next { s with done := true, cmdLatch := none }

/-- ABORT (40_sequencing R152, R154): with no invocation open it only completes; otherwise it clears the open kernel's
state, ACTIVE and NONEMPTY, and leaves BLKCNT, the buffer, the coefficients and everything else. -/
def Obligations.AbortDiscardsTheOpenKernel : Prop :=
  ∀ s : State, exec .abort s = .next
    (match s.active with
     | .none => { s with done := true, cmdLatch := none }
     | .int => { s with intY1 := 0#32, active := .none, nonempty := false, done := true, cmdLatch := none }
     | .sp => { s with spY1 := 0#32, spSeeded := false, active := .none, nonempty := false, done := true,
                       cmdLatch := none }
     | .bq => { s with bqHist := ⟨0#32, 0#32, 0#32, 0#32⟩, active := .none, nonempty := false, done := true,
                       cmdLatch := none }
     | .comb => { s with combHist := ⟨0#32, 0#32, 0#32, 0#32, 0#32, 0#32, 0#32, 0#32⟩, active := .none,
                         nonempty := false, done := true, cmdLatch := none })

/-- FINISH (40_sequencing R153): SEQUENCE with none open; otherwise it closes as ABORT does, and if no RUN completed it
raises INVALID_INPUT after the close. -/
def Obligations.FinishClosesAndReportsEmpty : Prop :=
  ∀ s : State,
    (s.active = .none →
      exec .finish s = .next { raiseError .sequence 0x30000000#32 s with done := true, cmdLatch := none }) ∧
    (s.active ≠ .none → s.nonempty = true → ∃ u, exec .abort s = .next u ∧ exec .finish s = .next u) ∧
    (s.active ≠ .none → s.nonempty = false →
      ∃ u, exec .abort s = .next u ∧ exec .finish s = .next (raiseError .invalidInput 0x30000000#32 u))

/-- Each INIT_k with no invocation open (41_integrator R170, 42_single_pole R190, 43_biquad R210, 44_comb R231): the
kernel's state at its seed, ACTIVE = k, BLKCNT = 0, NONEMPTY = 0, and nothing else but the completion. -/
def Obligations.InitOpensAFreshInvocation : Prop :=
  ∀ s : State, s.active = .none →
    exec .initInt s = .next { s with intY1 := 0#32, active := .int, blkcnt := 0#32, nonempty := false, done := true,
                                     cmdLatch := none } ∧
    exec .initSp s = .next { s with spY1 := 0#32, spSeeded := false, active := .sp, blkcnt := 0#32, nonempty := false,
                                    done := true, cmdLatch := none } ∧
    exec .initBq s = .next { s with bqHist := ⟨0#32, 0#32, 0#32, 0#32⟩, active := .bq, blkcnt := 0#32,
                                    nonempty := false, done := true, cmdLatch := none } ∧
    exec .initComb s = .next { s with combHist := ⟨0#32, 0#32, 0#32, 0#32, 0#32, 0#32, 0#32, 0#32⟩,
                                      active := .comb, blkcnt := 0#32, nonempty := false, done := true,
                                      cmdLatch := none }

/-- Out of order commands (40_sequencing R150; 60_exceptions R280): INIT_k with an invocation open, and RUN_k with
another kernel or none active, raise SEQUENCE with the command's word and have no other effect. -/
def Obligations.InitAndRunOutOfSequence : Prop :=
  ∀ s : State,
    (s.active ≠ .none → ∀ p ∈ [(Instr.initInt, 0x10000000#32), (Instr.initSp, 0x11000000#32),
        (Instr.initBq, 0x12000000#32), (Instr.initComb, 0x13000000#32)],
      exec p.1 s = .next { raiseError .sequence p.2 s with done := true, cmdLatch := none }) ∧
    (∀ p ∈ [(Kernel.int, Instr.runInt, 0x20000000#32), (Kernel.sp, Instr.runSp, 0x21000000#32),
        (Kernel.bq, Instr.runBq, 0x22000000#32), (Kernel.comb, Instr.runComb, 0x23000000#32)],
      s.active ≠ p.1 →
        exec p.2.1 s = .next { raiseError .sequence p.2.2 s with done := true, cmdLatch := none })

/-- The lifecycle over (ACTIVE, NONEMPTY) (40_sequencing R156): what each command leaves. A RUN over a block with an
unwritten word has no effect here (20_memory R86). -/
def Obligations.LifecycleTable : Prop :=
  ∀ (i : Instr) (s t : State), 1 ≤ s.blockSize → exec i s = .next t →
    (t.active, t.nonempty) =
      match i with
      | .initInt => if s.active = .none then (.int, false) else (s.active, s.nonempty)
      | .initSp => if s.active = .none then (.sp, false) else (s.active, s.nonempty)
      | .initBq => if s.active = .none then (.bq, false) else (s.active, s.nonempty)
      | .initComb => if s.active = .none then (.comb, false) else (s.active, s.nonempty)
      | .runInt => if s.active = .int ∧ BlockWritten s then (.int, true) else (s.active, s.nonempty)
      | .runSp => if s.active = .sp ∧ BlockWritten s then (.sp, true) else (s.active, s.nonempty)
      | .runBq => if s.active = .bq ∧ BlockWritten s then (.bq, true) else (s.active, s.nonempty)
      | .runComb => if s.active = .comb ∧ BlockWritten s then (.comb, true) else (s.active, s.nonempty)
      | .finish => if s.active = .none then (s.active, s.nonempty) else (.none, false)
      | .abort => if s.active = .none then (s.active, s.nonempty) else (.none, false)
      | .srst => (.none, false)
      | .nop => (s.active, s.nonempty)
      | .genSp => (s.active, s.nonempty)
      | .genBq => (s.active, s.nonempty)

/-- 10_state R39: INIT_k sets BLKCNT to 0, each successful RUN_k (its kernel active, its block written: 20_memory R86) adds 1
modulo 2^32, SRST and rst_n set it to 0, and
every other command, FINISH and ABORT among them, keeps it; it reads at 0x01C, and no bus access changes it. -/
def Obligations.BlkcntCountsSuccessfulRuns : Prop :=
  (∀ (i : Instr) (s t : State), 1 ≤ s.blockSize → exec i s = .next t →
    t.blkcnt =
      match i with
      | .initInt | .initSp | .initBq | .initComb => if s.active = .none then 0#32 else s.blkcnt
      | .runInt => if s.active = .int ∧ BlockWritten s then s.blkcnt + 1#32 else s.blkcnt
      | .runSp => if s.active = .sp ∧ BlockWritten s then s.blkcnt + 1#32 else s.blkcnt
      | .runBq => if s.active = .bq ∧ BlockWritten s then s.blkcnt + 1#32 else s.blkcnt
      | .runComb => if s.active = .comb ∧ BlockWritten s then s.blkcnt + 1#32 else s.blkcnt
      | .srst => 0#32
      | .nop | .finish | .abort | .genSp | .genBq => s.blkcnt) ∧
  (∀ (a : Access) (s t : State), busAccess a s = .next t → t.blkcnt = s.blkcnt) ∧
  ∀ s : State, (pinReset s).blkcnt = 0#32 ∧ readReg s .blkcnt = s.blkcnt ∧ regOffset .blkcnt = 0x1C

/-! ## The kernels -/

/-- 41_integrator R171: RUN_INT over a written block writes `y[n] = fadd(x[n], y[n-1])` in place from INT_Y1, leaves
the last output there, counts the block, completes, and changes nothing else. -/
def Obligations.RunIntFiltersTheBlock : Prop :=
  ∀ (s : State) (xs : List Word), s.active = .int → xs.length = s.blockSize → holdsBlock s.mem xs →
    exec .runInt s =
      let r := scan (fun y1 x => (fadd x y1, fadd x y1)) s.intY1 xs
      .next { s with intY1 := r.1, mem := writeBlock s.mem 0 r.2, blkcnt := s.blkcnt + 1#32, nonempty := true,
                     done := true, cmdLatch := none }

/-- 42_single_pole R191, R192: RUN_SP over a written block starts from SP_Y1, or from the block's first sample if the
seed is not yet taken, and writes `y = y1 + alpha * (x - y1)` in place, each operation rounded.
Where R192's corner case for alpha = 0 says otherwise, on the sign of a zero, following its pseudocode is the model's choice
(log entry 30). -/
def Obligations.RunSpFiltersTheBlock : Prop :=
  ∀ (s : State) (x0 : Word) (xs : List Word), s.active = .sp → (x0 :: xs).length = s.blockSize →
    holdsBlock s.mem (x0 :: xs) →
    exec .runSp s =
      let r := scan (fun y1 x => let y := fadd y1 (fmul s.spAlpha (fsub x y1)); (y, y))
        (if s.spSeeded then s.spY1 else x0) (x0 :: xs)
      .next { s with spY1 := r.1, spSeeded := true, mem := writeBlock s.mem 0 r.2, blkcnt := s.blkcnt + 1#32,
                     nonempty := true, done := true, cmdLatch := none }

/-- 43_biquad R211: RUN_BQ over a written block: the direct-form-1 output in the order of the rule, and the history
shifted by one, sample by sample.
Where R211's corner cases say otherwise, on the sign of a zero and on opposite infinities, following its pseudocode is the
model's choice (log entry 28). -/
def Obligations.RunBqFiltersTheBlock : Prop :=
  ∀ (s : State) (xs : List Word), s.active = .bq → xs.length = s.blockSize → holdsBlock s.mem xs →
    exec .runBq s =
      let r := scan (fun (h : BqHist) x =>
        let t0 := fmul s.bqCoeffs.b0 x
        let t1 := fmul s.bqCoeffs.b1 h.x1
        let t2 := fmul s.bqCoeffs.b2 h.x2
        let t3 := fmul s.bqCoeffs.a1 h.y1
        let t4 := fmul s.bqCoeffs.a2 h.y2
        let y := fsub (fsub (fadd (fadd t0 t1) t2) t3) t4
        (BqHist.mk x h.x1 y h.y1, y)) s.bqHist xs
      .next { s with bqHist := r.1, mem := writeBlock s.mem 0 r.2, blkcnt := s.blkcnt + 1#32, nonempty := true,
                     done := true, cmdLatch := none }

/-- 44_comb R230, R232, R233: RUN_COMB over a written block in each of the four variants, both windows shifted by one
every sample.
Where R232's corner case for variants 1 and 2 says otherwise, on the sign of a zero, following its pseudocode is the model's
choice (log entry 29). -/
def Obligations.RunCombFiltersTheBlock : Prop :=
  ∀ (s : State) (xs : List Word), s.active = .comb → xs.length = s.blockSize → holdsBlock s.mem xs →
    exec .runComb s =
      let r := scan (fun (h : CombHist) x =>
        let y := match s.combVar with
          | .full => fadd (fadd x (fmul s.combG1 h.y3)) (fmul s.combG2 h.x5)
          | .ffOnly => fadd x (fmul s.combG2 h.x5)
          | .fbOnly => fadd x (fmul s.combG1 h.y3)
          | .pass => x
        (CombHist.mk x h.x1 h.x2 h.x3 h.x4 y h.y1 h.y2, y)) s.combHist xs
      .next { s with combHist := r.1, mem := writeBlock s.mem 0 r.2, blkcnt := s.blkcnt + 1#32, nonempty := true,
                     done := true, cmdLatch := none }

/-- Unwritten words (20_memory R86): a host read of one, idle or busy, is recorded as UnwrittenRead(i), returns a word
about which nothing is said, and changes nothing else; a RUN of the active kernel records UnwrittenRead of the first
unwritten word of the block, completes (40_sequencing R150), and has no other effect. That the record is made while busy
too, and that DONE and BUSY move after a RUN's record, are the model's readings (log entries 9, 10). -/
def Obligations.UnwrittenWordsFault : Prop :=
  ∀ (s : State) (n : Nat), n < s.blockSize → s.blockSize ≤ 16384 →
    readBuf s.mem n = none →
    (s.rstN = true →
      ∃ w, busAccess (.read (BitVec.ofNat 17 (0x10000 + 4 * n)) 4) s =
        .next { s with resp := .data w, faults := s.faults ++ [.unwrittenRead n], draws := s.draws + 1 }) ∧
    ((∀ j, j < n → (readBuf s.mem j).isSome) →
      ∀ p ∈ [(Kernel.int, Instr.runInt), (Kernel.sp, Instr.runSp), (Kernel.bq, Instr.runBq),
          (Kernel.comb, Instr.runComb)],
        s.active = p.1 →
          exec p.2 s = .next { s with faults := s.faults ++ [.unwrittenRead n], done := true, cmdLatch := none })

/-- What no command but SRST changes, and which commands write the coefficients (30_encoding R122, 45_coefficients R253,
R255): CTRL and the generator inputs FS, FC, Q, SP_W and the gains stay; SP_ALPHA is written by GEN_SP alone and B0 to
A2 by GEN_BQ alone. No command at all changes BLKSZ, rst_n, the bus answer, the agenda or the draws, and only a RUN over a
block with an unwritten word adds a fault record, of the first such word (20_memory R86). -/
def Obligations.CommandsWriteOnlyTheirRegisters : Prop :=
  ∀ (i : Instr) (s t : State), exec i s = .next t →
    (t.blockSize = s.blockSize ∧ t.rstN = s.rstN ∧ t.resp = s.resp ∧ t.agenda = s.agenda ∧ t.draws = s.draws) ∧
    (1 ≤ s.blockSize → t.faults = s.faults ∨
      (i ∈ [Instr.runInt, Instr.runSp, Instr.runBq, Instr.runComb] ∧
        ∃ n, n < s.blockSize ∧ readBuf s.mem n = none ∧ (∀ j, j < n → (readBuf s.mem j).isSome) ∧
          t.faults = s.faults ++ [.unwrittenRead n])) ∧
    (i ≠ .srst →
      t.ieDone = s.ieDone ∧ t.ieErr = s.ieErr ∧ t.combVar = s.combVar ∧ t.fs = s.fs ∧ t.fc = s.fc ∧ t.q = s.q ∧
      t.spW = s.spW ∧ t.combG1 = s.combG1 ∧ t.combG2 = s.combG2) ∧
    (i ≠ .srst → i ≠ .genSp → t.spAlpha = s.spAlpha) ∧
    (i ≠ .srst → i ≠ .genBq → t.bqCoeffs = s.bqCoeffs)

/-- Each kernel's history is written only by its own INIT and RUN, by FINISH and ABORT of its invocation, and by SRST
(30_encoding R122, 10_state R58). -/
def Obligations.HistoriesBelongToTheirKernels : Prop :=
  ∀ (i : Instr) (s t : State), exec i s = .next t → i ≠ .srst →
    (i ≠ .initInt → i ≠ .runInt → ¬ (s.active = .int ∧ (i = .finish ∨ i = .abort)) → t.intY1 = s.intY1) ∧
    (i ≠ .initSp → i ≠ .runSp → ¬ (s.active = .sp ∧ (i = .finish ∨ i = .abort)) →
      t.spY1 = s.spY1 ∧ t.spSeeded = s.spSeeded) ∧
    (i ≠ .initBq → i ≠ .runBq → ¬ (s.active = .bq ∧ (i = .finish ∨ i = .abort)) → t.bqHist = s.bqHist) ∧
    (i ≠ .initComb → i ≠ .runComb → ¬ (s.active = .comb ∧ (i = .finish ∨ i = .abort)) → t.combHist = s.combHist)

/-- The memory frame of every command (20_memory R80, R87; 30_encoding R122): only the four RUNs write the buffer, and
they write no byte outside the buffer's BLOCK_SIZE words. -/
def Obligations.OnlyRunsWriteTheBuffer : Prop :=
  ∀ (i : Instr) (s t : State), exec i s = .next t →
    (i ∉ [Instr.runInt, Instr.runSp, Instr.runBq, Instr.runComb] → ∀ a, readByte t.mem a = readByte s.mem a) ∧
    ∀ a, a < 0x10000 ∨ 0x10000 + 4 * s.blockSize ≤ a → readByte t.mem a = readByte s.mem a

/-! ## Continuity across blocks -/

/-- 41_integrator R172: over any number of blocks of one invocation the outputs, concatenated, are the single recurrence
run over the concatenated inputs, and INT_Y1 equals the last output. -/
def Obligations.IntegratorContinuity : Prop :=
  ∀ (s t : State) (bs os : List (List Word)), s.active = .int → FiltersBlocks .runInt s bs os t →
    (t.intY1, os.flatten) = scan (fun y1 x => (fadd x y1, fadd x y1)) s.intY1 bs.flatten ∧
    ∀ y, os.flatten.getLast? = some y → t.intY1 = y

/-- 42_single_pole R193: the same for the single-pole kernel; the seed is the first sample of the first block if it is
not yet taken.
The recurrence is R192's pseudocode, the model's choice on the sign of a zero (log entry 30). -/
def Obligations.SinglePoleContinuity : Prop :=
  ∀ (s t : State) (bs os : List (List Word)) (x0 : Word) (xs : List Word), s.active = .sp →
    FiltersBlocks .runSp s bs os t → bs.flatten = x0 :: xs →
    (t.spY1, os.flatten) =
      scan (fun y1 x => let y := fadd y1 (fmul s.spAlpha (fsub x y1)); (y, y))
        (if s.spSeeded then s.spY1 else x0) bs.flatten

/-- 43_biquad R212, the source's "central property": the same for the biquad, the final history included.
The recurrence is R211's pseudocode, the model's choice on the sign of a zero and on opposite infinities (log entry 28). -/
def Obligations.BiquadContinuity : Prop :=
  ∀ (s t : State) (bs os : List (List Word)), s.active = .bq → FiltersBlocks .runBq s bs os t →
    (t.bqHist, os.flatten) =
      scan (fun (h : BqHist) x =>
        let y := fsub (fsub (fadd (fadd (fmul s.bqCoeffs.b0 x) (fmul s.bqCoeffs.b1 h.x1))
          (fmul s.bqCoeffs.b2 h.x2)) (fmul s.bqCoeffs.a1 h.y1)) (fmul s.bqCoeffs.a2 h.y2)
        (BqHist.mk x h.x1 y h.y1, y)) s.bqHist bs.flatten

/-- 44_comb R234: the same for the comb, in whichever variant is selected.
The recurrence is R232's pseudocode, the model's choice on the sign of a zero (log entry 29). -/
def Obligations.CombContinuity : Prop :=
  ∀ (s t : State) (bs os : List (List Word)), s.active = .comb → FiltersBlocks .runComb s bs os t →
    (t.combHist, os.flatten) =
      scan (fun (h : CombHist) x =>
        let y := match s.combVar with
          | .full => fadd (fadd x (fmul s.combG1 h.y3)) (fmul s.combG2 h.x5)
          | .ffOnly => fadd x (fmul s.combG2 h.x5)
          | .fbOnly => fadd x (fmul s.combG1 h.y3)
          | .pass => x
        (CombHist.mk x h.x1 h.x2 h.x3 h.x4 y h.y1 h.y2, y)) s.combHist bs.flatten

/-! ## Properties of the recurrences -/

/-- 43_biquad R215: with the identity coefficients and a finite history, RUN_BQ over finite samples reproduces every
sample as a real number. -/
def Obligations.IdentityBiquadReproducesFiniteSamples : Prop :=
  ∀ (s : State) (xs : List Word), s.active = .bq → s.bqCoeffs = ⟨0x3F800000#32, 0#32, 0#32, 0#32, 0#32⟩ →
    isFinite s.bqHist.x1 = true → isFinite s.bqHist.x2 = true → isFinite s.bqHist.y1 = true →
    isFinite s.bqHist.y2 = true → xs.length = s.blockSize → holdsBlock s.mem xs →
    (∀ x ∈ xs, isFinite x = true) →
    ∃ t, exec .runBq s = .next t ∧
      ∀ (i : Nat) (x : Word), xs[i]? = some x →
        ∃ y, readBuf t.mem i = some y ∧ isFinite y = true ∧ units y = units x

/-- 42_single_pole R191: the first output of a Signal is its first sample, bit for bit, for finite sample and alpha; the
one exception is -0.0 with alpha's sign bit 0, which gives +0.0. -/
def Obligations.SinglePoleFirstOutputIsTheFirstSample : Prop :=
  ∀ (s : State) (x0 : Word) (xs : List Word), s.active = .sp → s.spSeeded = false →
    (x0 :: xs).length = s.blockSize → holdsBlock s.mem (x0 :: xs) → isFinite x0 = true →
    isFinite s.spAlpha = true →
    ∃ t, exec .runSp s = .next t ∧
      readBuf t.mem 0 = some (if x0 = 0x80000000#32 ∧ signBit s.spAlpha = false then 0#32 else x0)

/-- 44_comb R232, variant PASS: the block passes unchanged, bit for bit, and so does every byte of memory. -/
def Obligations.PassCombLeavesTheBufferAlone : Prop :=
  ∀ (s : State) (xs : List Word), s.active = .comb → s.combVar = .pass → xs.length = s.blockSize →
    holdsBlock s.mem xs →
    ∃ t, exec .runComb s = .next t ∧ holdsBlock t.mem xs ∧ ∀ a, readByte t.mem a = readByte s.mem a

/-! ## Arithmetic -/

/-- 00_scope R12, R13: for finite operands, fadd and fsub are the correctly rounded sum and difference: nearest, ties to
even, subnormals kept, overflow to infinity. The magnitude from which a result overflows, and the sign kept by a result that
rounds to zero, are IEEE 754's (log entry 12, PRESUMED). -/
def Obligations.SumsAndDifferencesAreCorrectlyRounded : Prop :=
  ∀ a b : Word, isFinite a = true → isFinite b = true →
    IsRounded (realOf a + realOf b) (fadd a b) ∧ IsRounded (realOf a - realOf b) (fsub a b)

/-- 00_scope R12, R13: for finite operands, fmul is the correctly rounded product. The overflow magnitude and the
sign kept on underflow are IEEE 754's (log entry 12, PRESUMED). -/
def Obligations.ProductsAreCorrectlyRounded : Prop :=
  ∀ a b : Word, isFinite a = true → isFinite b = true → IsRounded (realOf a * realOf b) (fmul a b)

/-- 00_scope R13, zeros, infinities and NaN: a NaN operand and every invalid operation give a NaN; an infinity with a
finite value, or with one it does not cancel, stays, in either place; an infinity times a nonzero value is an infinity; an
exact zero sum is +0.0 unless both terms are -0.0, and an exact zero difference +0.0 unless it is -0.0 - +0.0; a product's
sign is the exclusive or of its operands' signs. These are IEEE 754's (log entry 12, PRESUMED). -/
def Obligations.SpecialValuesFollowIeee : Prop :=
  ∀ a b : Word,
    (isNaN a = true ∨ isNaN b = true →
      isNaN (fadd a b) = true ∧ isNaN (fsub a b) = true ∧ isNaN (fmul a b) = true) ∧
    (isInf a = true → isInf b = true → signBit a = signBit b → fadd a b = a ∧ isNaN (fsub a b) = true) ∧
    (isInf a = true → isInf b = true → signBit a ≠ signBit b → isNaN (fadd a b) = true ∧ fsub a b = a) ∧
    (isInf a = true → isFinite b = true →
      fadd a b = a ∧ fadd b a = a ∧ fsub a b = a ∧ fsub b a = a ^^^ 0x80000000#32) ∧
    (isInf a = true → isFinite b = true → units b = 0 → isNaN (fmul a b) = true ∧ isNaN (fmul b a) = true) ∧
    (isInf a = true → isNaN b = false → ¬ (isFinite b = true ∧ units b = 0) →
      isInf (fmul a b) = true ∧ signBit (fmul a b) = (signBit a != signBit b) ∧
      isInf (fmul b a) = true ∧ signBit (fmul b a) = (signBit a != signBit b)) ∧
    (isFinite a = true → isFinite b = true → units a + units b = 0 →
      fadd a b = if signBit a && signBit b then 0x80000000#32 else 0#32) ∧
    (isFinite a = true → isFinite b = true → units a - units b = 0 →
      fsub a b = if signBit a && !signBit b then 0x80000000#32 else 0#32) ∧
    (isFinite a = true → isFinite b = true → signBit (fmul a b) = (signBit a != signBit b))

/-! ## Generators -/

/-- 45_coefficients R257: GEN_SP checks the lock, then the range (in the patterns of R259), then writes SP_ALPHA alone
with the configuration function's value. -/
def Obligations.GenSpChecksThenWritesAlpha : Prop :=
  ∀ s : State, exec .genSp s =
    if s.active = .sp then
      .next { raiseError .coefLocked 0x40000000#32 s with done := true, cmdLatch := none }
    else if 0x00000001 ≤ s.spW.toNat ∧ s.spW.toNat ≤ 0x40490FDA then
      .next { s with spAlpha := Config.genSP s.spW, done := true, cmdLatch := none }
    else .next { raiseError .invalidParameter 0x40000000#32 s with done := true, cmdLatch := none }

/-- 45_coefficients R260: GEN_BQ checks the lock, then bq_valid, then writes B0 to A2 alone with the configuration
function's values. -/
def Obligations.GenBqChecksThenWritesCoefficients : Prop :=
  ∀ s : State, exec .genBq s =
    if s.active = .bq then
      .next { raiseError .coefLocked 0x41000000#32 s with done := true, cmdLatch := none }
    else if bqValid s.fs s.fc s.q = true then
      .next { s with bqCoeffs := Config.genBQ s.fs s.fc s.q, done := true, cmdLatch := none }
    else .next { raiseError .invalidParameter 0x41000000#32 s with done := true, cmdLatch := none }

/-- 45_coefficients R259: SP_W is valid exactly when it is finite and 0 < real(SP_W) < pi, pi being the exact real; in
binary32 those are the patterns 0x00000001 to 0x40490FDA. -/
def Obligations.SpValidIsBetweenZeroAndPi : Prop :=
  ∀ v : Word,
    (spValid v = true ↔ isFinite v = true ∧ 0 < realOf v ∧ realOf v < Real.pi) ∧
    (spValid v = true ↔ 0x00000001 ≤ v.toNat ∧ v.toNat ≤ 0x40490FDA)

/-- 45_coefficients R261: the four conditions of bq_valid, over the reals and with FS signed. -/
def Obligations.BqValidIsBelowNyquist : Prop :=
  ∀ fs fc q : Word, bqValid fs fc q = true ↔
    isFinite fc = true ∧ 0 < realOf fc ∧ 2 * realOf fc < (fs.toInt : ℝ) ∧ isFinite q = true ∧ 0 < realOf q

/-- The generators are pure (45_coefficients R255, R256): what GEN_SP leaves in SP_ALPHA and what it raises (the whole error
capture) depend on SP_W, ACTIVE, SP_ALPHA and the error capture alone, and the same for GEN_BQ with FS, FC, Q and B0 to A2;
neither writes the other's registers or the buffer. -/
def Obligations.GeneratorsDependOnTheirInputsAlone : Prop :=
  ∀ s s' t t' : State, s.active = s'.active → s.err = s'.err → s.errOvf = s'.errOvf → s.errCode = s'.errCode →
    s.errInfo = s'.errInfo →
    (s.spW = s'.spW → s.spAlpha = s'.spAlpha → exec .genSp s = .next t → exec .genSp s' = .next t' →
      t.spAlpha = t'.spAlpha ∧ t.err = t'.err ∧ t.errOvf = t'.errOvf ∧ t.errCode = t'.errCode ∧
      t.errInfo = t'.errInfo ∧ t.bqCoeffs = s.bqCoeffs ∧ t.mem = s.mem) ∧
    (s.fs = s'.fs → s.fc = s'.fc → s.q = s'.q → s.bqCoeffs = s'.bqCoeffs → exec .genBq s = .next t →
      exec .genBq s' = .next t' →
      t.bqCoeffs = t'.bqCoeffs ∧ t.err = t'.err ∧ t.errOvf = t'.errOvf ∧ t.errCode = t'.errCode ∧
      t.errInfo = t'.errInfo ∧ t.spAlpha = s.spAlpha ∧ t.mem = s.mem)

/-- 45_coefficients R264, over the reals: for every valid cutoff the biquad's numerator has b0 = b2 and b1 = 2*b0 and its
gain at DC is 1; the single-pole alpha lies strictly between 0 and sqrt(8) - 2 and rises with w. -/
def Obligations.ReferenceGeneratorProperties : Prop :=
  (∀ fs fc q : ℝ, 0 < fc → 2 * fc < fs → 0 < q →
    bqB0Real fs fc q = bqB2Real fs fc q ∧ bqB1Real fs fc q = 2 * bqB0Real fs fc q ∧
    (bqB0Real fs fc q + bqB1Real fs fc q + bqB2Real fs fc q) / (1 + bqA1Real fs fc q + bqA2Real fs fc q) = 1) ∧
  (∀ w : ℝ, 0 < w → w < Real.pi → 0 < genSpReal w ∧ genSpReal w < Real.sqrt 8 - 2) ∧
  ∀ w w' : ℝ, 0 < w → w < w' → w' < Real.pi → genSpReal w < genSpReal w'

/-! ## Host accesses -/

/-- The address map (20_memory R80, R81) at every aligned offset: registers, reserved, unmapped, buffer, unmapped; and
each of the 34 registers at its offset as 10_state R31 tables it. -/
def Obligations.AddressMap : Prop :=
  (∀ (n : Nat) (s : State), ∀ p ∈ registerTable s, targetOf n p.2.1 = .reg p.1 ∧ regOffset p.1 = p.2.1) ∧
  (∀ s : State, (registerTable s).map (fun p => p.2.1) = (List.range 34).map (4 * ·)) ∧
  ∀ (n off : Nat), off % 4 = 0 →
    (off ≤ 0x00084 → ∃ r, targetOf n off = .reg r ∧ regOffset r = off) ∧
    (0x00088 ≤ off → off ≤ 0x000FC → targetOf n off = .reserved) ∧
    (0x00100 ≤ off → off ≤ 0x0FFFC → targetOf n off = .unmapped) ∧
    (∀ i, i < n → off = 0x10000 + 4 * i → targetOf n off = .buffer i) ∧
    (0x10000 + 4 * n ≤ off → targetOf n off = .unmapped)

/-- 20_memory R83: an access that is not 4 bytes, not aligned or unmapped gets the ERROR response, busy or not, changes
no state of the CORE, and is recorded as BusError(off). -/
def Obligations.BadAccessIsABusErrorOnly : Prop :=
  ∀ (a : Access) (s : State), s.rstN = true →
    a.size ≠ 4 ∨ a.off.toNat % 4 ≠ 0 ∨ (0x00100 ≤ a.off.toNat ∧ a.off.toNat ≤ 0x0FFFC) ∨
      0x10000 + 4 * s.blockSize ≤ a.off.toNat →
    busAccess a s = .next { s with resp := .error, faults := s.faults ++ [.busError a.off.toNat] }

/-- What the registers read, row by row of 10_state R31 (ID 0x46430007 and BLKSZ = BLOCK_SIZE in every state, R32, R38),
and reads while idle (20_memory R82, R85): every register at its offset returns its value, a reserved offset returns 0,
a written buffer word returns its word, and nothing but the bus answer changes. -/
def Obligations.IdleReadsReturnTheState : Prop :=
  (∀ s : State, ∀ p ∈ registerTable s, readReg s p.1 = p.2.2) ∧
  ∀ s : State, s.rstN = true → s.cmdLatch = none → s.blockSize ≤ 16384 →
    (∀ p ∈ registerTable s, busAccess (.read (BitVec.ofNat 17 p.2.1) 4) s = .next { s with resp := .data p.2.2 }) ∧
    (∀ r : Reg, busAccess (.read (BitVec.ofNat 17 (regOffset r)) 4) s = .next { s with resp := .data (readReg s r) }) ∧
    (∀ k, k < 30 → busAccess (.read (BitVec.ofNat 17 (0x088 + 4 * k)) 4) s = .next { s with resp := .data 0#32 }) ∧
    (∀ i w, i < s.blockSize → readBuf s.mem i = some w →
      busAccess (.read (BitVec.ofNat 17 (0x10000 + 4 * i)) 4) s = .next { s with resp := .data w })

/-- 20_memory R84: while BUSY = 1 the six pollable registers read their values, every other register and every written
buffer word reads a word about which nothing is said, a write to STATUS is performed as while idle, and every other
write to a mapped offset is dropped and raises BUSY_WRITE with the offset; a bad access is R83's bus error. That a
reserved offset is among the "every other read", and that a dropped write is answered OKAY, are the model's readings
(log entries 16, 18). -/
def Obligations.BusyWindowAccesses : Prop :=
  ∀ (s : State) (w : Word), s.rstN = true → s.cmdLatch = some w → s.blockSize ≤ 16384 →
    (∀ r ∈ [Reg.id, Reg.ctrl, Reg.status, Reg.errcode, Reg.errinfo, Reg.blksz],
      busAccess (.read (BitVec.ofNat 17 (regOffset r)) 4) s = .next { s with resp := .data (readReg s r) }) ∧
    (∀ r ∉ [Reg.id, Reg.ctrl, Reg.status, Reg.errcode, Reg.errinfo, Reg.blksz],
      ∃ x, busAccess (.read (BitVec.ofNat 17 (regOffset r)) 4) s =
        .next { s with resp := .data x, draws := s.draws + 1 }) ∧
    (∀ i, i < s.blockSize → (readBuf s.mem i).isSome →
      ∃ x, busAccess (.read (BitVec.ofNat 17 (0x10000 + 4 * i)) 4) s =
        .next { s with resp := .data x, draws := s.draws + 1 }) ∧
    (∀ v, busAccess (.write 0x00008#17 4 v) s = .next { acknowledge v s with resp := .okay }) ∧
    (∀ (off : BitVec 17) (v : Word), off ≠ 0x00008#17 → off.toNat % 4 = 0 →
      off.toNat ≤ 0x000FC ∨ (0x10000 ≤ off.toNat ∧ off.toNat < 0x10000 + 4 * s.blockSize) →
      busAccess (.write off 4 v) s = .next { raiseError .busyWrite (off.setWidth 32) s with resp := .okay }) ∧
    (∀ k, k < 30 →
      ∃ x, busAccess (.read (BitVec.ofNat 17 (0x088 + 4 * k)) 4) s =
        .next { s with resp := .data x, draws := s.draws + 1 }) ∧
    ∀ a : Access, accessBad s.blockSize a = true →
      busAccess a s = .next { s with resp := .error, faults := s.faults ++ [.busError a.off.toNat] }

/-- 20_memory R85: no read has a side effect: whatever the offset and size, busy or idle, a read leaves everything but
the bus answer and the model's own records of it. -/
def Obligations.ReadsHaveNoSideEffect : Prop :=
  ∀ (off : BitVec 17) (n : Nat) (s t : State), busAccess (.read off n) s = .next t →
    t = { s with resp := t.resp, faults := t.faults, draws := t.draws }

/-- 45_coefficients R250: a host write to a coefficient register while idle is dropped with COEF_LOCKED and its offset if
the active kernel owns the register; otherwise it is stored bit for bit and every other register, the buffer and the
command latch stay. -/
def Obligations.CoefficientWriteObeysTheLock : Prop :=
  ∀ (s : State) (v : Word), s.rstN = true → s.cmdLatch = none →
    ∀ p ∈ [(Reg.spAlpha, Kernel.sp), (Reg.b0, Kernel.bq), (Reg.b1, Kernel.bq), (Reg.b2, Kernel.bq),
        (Reg.a1, Kernel.bq), (Reg.a2, Kernel.bq), (Reg.combG1, Kernel.comb), (Reg.combG2, Kernel.comb)],
      if s.active = p.2 then
        busAccess (.write (BitVec.ofNat 17 (regOffset p.1)) 4 v) s =
          .next { raiseError .coefLocked (BitVec.ofNat 32 (regOffset p.1)) s with resp := .okay }
      else
        ∃ t, busAccess (.write (BitVec.ofNat 17 (regOffset p.1)) 4 v) s = .next t ∧ readReg t p.1 = v ∧
          (∀ r, r ≠ p.1 → readReg t r = readReg s r) ∧ t.mem = s.mem ∧ t.cmdLatch = none ∧ t.resp = .okay

/-- 45_coefficients R252: a host write to FS, FC, Q or SP_W while idle is never locked and is stored bit for bit; every
other register, the buffer and the command latch stay. -/
def Obligations.GeneratorInputWritesAreNeverLocked : Prop :=
  ∀ (s : State) (v : Word), s.rstN = true → s.cmdLatch = none →
    ∀ r ∈ [Reg.fs, Reg.fc, Reg.q, Reg.spW],
      ∃ t, busAccess (.write (BitVec.ofNat 17 (regOffset r)) 4 v) s = .next t ∧ readReg t r = v ∧
        (∀ r', r' ≠ r → readReg t r' = readReg s r') ∧ t.mem = s.mem ∧ t.cmdLatch = none ∧ t.resp = .okay

/-- A write while idle to ID, to another read-only register or to a reserved offset is ignored with OKAY
(10_state R31, R32; 20_memory R82). -/
def Obligations.ReadOnlyWritesAreIgnored : Prop :=
  ∀ (s : State) (v : Word), s.rstN = true → s.cmdLatch = none →
    (∀ r ∈ [Reg.id, Reg.errcode, Reg.errinfo, Reg.blksz, Reg.blkcnt, Reg.intY1, Reg.spY1, Reg.bqX1, Reg.bqX2,
        Reg.bqY1, Reg.bqY2, Reg.combX1, Reg.combX2, Reg.combX3, Reg.combX4, Reg.combX5, Reg.combY1, Reg.combY2,
        Reg.combY3],
      busAccess (.write (BitVec.ofNat 17 (regOffset r)) 4 v) s = .next { s with resp := .okay }) ∧
    (∀ k, k < 30 → busAccess (.write (BitVec.ofNat 17 (0x088 + 4 * k)) 4 v) s = .next { s with resp := .okay })

/-- A buffer write while idle (20_memory R81, R82): it changes BUF[i] and the bus answer alone, every byte outside the
word staying, and the next read of BUF[i] returns the word bit for bit. -/
def Obligations.BufferWriteThenRead : Prop :=
  ∀ (s : State) (i : Nat) (v : Word), s.rstN = true → s.cmdLatch = none → s.blockSize ≤ 16384 → i < s.blockSize →
    ∃ m, busAccess (.write (BitVec.ofNat 17 (0x10000 + 4 * i)) 4 v) s = .next { s with mem := m, resp := .okay } ∧
      (∀ a, a < 0x10000 + 4 * i ∨ 0x10000 + 4 * i + 4 ≤ a → readByte m a = readByte s.mem a) ∧
      busAccess (.read (BitVec.ofNat 17 (0x10000 + 4 * i)) 4) { s with mem := m, resp := .okay } =
        .next { s with mem := m, resp := .data v }

/-- What no bus access changes (20_memory R84, R99): the lifecycle, every history, BLKCNT, BLKSZ, rst_n and the agenda; the
draws change only upward; a latched command stays the one that runs. -/
def Obligations.HostAccessesKeepTheInvocation : Prop :=
  ∀ (a : Access) (s t : State), busAccess a s = .next t →
    t.active = s.active ∧ t.nonempty = s.nonempty ∧ t.spSeeded = s.spSeeded ∧ t.blkcnt = s.blkcnt ∧
    t.intY1 = s.intY1 ∧ t.spY1 = s.spY1 ∧ t.bqHist = s.bqHist ∧ t.combHist = s.combHist ∧
    t.blockSize = s.blockSize ∧ t.rstN = s.rstN ∧ t.agenda = s.agenda ∧ s.draws ≤ t.draws ∧
    (∀ w, s.cmdLatch = some w → t.cmdLatch = some w)

/-! ## Framing -/

/-- 20_memory R88, R89: every block of frame(S) has B samples, and unframe(frame(S)) is S followed by
`B*ceil(L/B) - L` copies of +0.0. -/
def Obligations.UnframeOfFramePadsWithZeros : Prop :=
  ∀ (blockLen : Nat) (samples : List Word), 0 < blockLen →
    (∀ b ∈ frame blockLen samples, b.length = blockLen) ∧
    (frame blockLen samples).length = (samples.length + blockLen - 1) / blockLen ∧
    unframe (frame blockLen samples) =
      samples ++ List.replicate (blockLen * ((samples.length + blockLen - 1) / blockLen) - samples.length) 0#32

/-! ## Whole-machine invariants -/

/-- The invariant holds right after reset (10_state R60). -/
def Obligations.ResetMeetsTheInvariant : Prop :=
  MachineInv State.reset

/-- Every step of the machine, from any state that meets the invariant and whatever the host does next, keeps it: the
idle kernels' states are at their reset values, SP_SEEDED and NONEMPTY belong to an open invocation, ERRCODE and ERRINFO
are 0 exactly while ERR is, the buffer keeps its canonical form inside its window and is written by whole words
(10_state R34, R36, R37, R58; 20_memory R80, R92). -/
def Obligations.EveryStepKeepsTheInvariant : Prop :=
  ∀ s t : State, MachineInv s → step s = .next t → MachineInv t

/-- 10_state R57: while STATUS.ACTIVE names a kernel, through a step and after it, no register the kernel owns changes,
whatever the host writes and whichever command runs. -/
def Obligations.OwnedRegistersAreLocked : Prop :=
  ∀ s t : State, step s = .next t → t.active = s.active →
    (s.active = .sp → t.spAlpha = s.spAlpha) ∧
    (s.active = .bq → t.bqCoeffs = s.bqCoeffs) ∧
    (s.active = .comb → t.combG1 = s.combG1 ∧ t.combG2 = s.combG2 ∧ t.combVar = s.combVar)

/-- Model faults are recorded permanently (60_exceptions R282, 10_state R60), and BLOCK_SIZE does not change at run time
(00_scope R9), whatever step is taken, resets included. -/
def Obligations.FaultRecordsAndBlockSizePersist : Prop :=
  ∀ s t : State, step s = .next t → s.faults <+: t.faults ∧ t.blockSize = s.blockSize
end

