-- ==== Sys2Proof/Laws/State.lean ====
section
/-! SUPPORT. What each named update of State leaves in each field, one lemma per field per update, so that no later
proof unfolds a record update. -/

namespace Sys2Proof.Machine


/-! ### complete -/

@[simp] theorem complete_rstN (s : State) : (complete s).rstN = s.rstN :=
  rfl
@[simp] theorem complete_cmdLatch (s : State) : (complete s).cmdLatch = none :=
  rfl
@[simp] theorem complete_done (s : State) : (complete s).done = true :=
  rfl
@[simp] theorem complete_err (s : State) : (complete s).err = s.err :=
  rfl
@[simp] theorem complete_errOvf (s : State) : (complete s).errOvf = s.errOvf :=
  rfl
@[simp] theorem complete_nonempty (s : State) : (complete s).nonempty = s.nonempty :=
  rfl
@[simp] theorem complete_spSeeded (s : State) : (complete s).spSeeded = s.spSeeded :=
  rfl
@[simp] theorem complete_active (s : State) : (complete s).active = s.active :=
  rfl
@[simp] theorem complete_ieDone (s : State) : (complete s).ieDone = s.ieDone :=
  rfl
@[simp] theorem complete_ieErr (s : State) : (complete s).ieErr = s.ieErr :=
  rfl
@[simp] theorem complete_combVar (s : State) : (complete s).combVar = s.combVar :=
  rfl
@[simp] theorem complete_errCode (s : State) : (complete s).errCode = s.errCode :=
  rfl
@[simp] theorem complete_errInfo (s : State) : (complete s).errInfo = s.errInfo :=
  rfl
@[simp] theorem complete_blockSize (s : State) : (complete s).blockSize = s.blockSize :=
  rfl
@[simp] theorem complete_blkcnt (s : State) : (complete s).blkcnt = s.blkcnt :=
  rfl
@[simp] theorem complete_fs (s : State) : (complete s).fs = s.fs :=
  rfl
@[simp] theorem complete_fc (s : State) : (complete s).fc = s.fc :=
  rfl
@[simp] theorem complete_q (s : State) : (complete s).q = s.q :=
  rfl
@[simp] theorem complete_spW (s : State) : (complete s).spW = s.spW :=
  rfl
@[simp] theorem complete_spAlpha (s : State) : (complete s).spAlpha = s.spAlpha :=
  rfl
@[simp] theorem complete_bqCoeffs (s : State) : (complete s).bqCoeffs = s.bqCoeffs :=
  rfl
@[simp] theorem complete_combG1 (s : State) : (complete s).combG1 = s.combG1 :=
  rfl
@[simp] theorem complete_combG2 (s : State) : (complete s).combG2 = s.combG2 :=
  rfl
@[simp] theorem complete_intY1 (s : State) : (complete s).intY1 = s.intY1 :=
  rfl
@[simp] theorem complete_spY1 (s : State) : (complete s).spY1 = s.spY1 :=
  rfl
@[simp] theorem complete_bqHist (s : State) : (complete s).bqHist = s.bqHist :=
  rfl
@[simp] theorem complete_combHist (s : State) : (complete s).combHist = s.combHist :=
  rfl
@[simp] theorem complete_mem (s : State) : (complete s).mem = s.mem :=
  rfl
@[simp] theorem complete_agenda (s : State) : (complete s).agenda = s.agenda :=
  rfl
@[simp] theorem complete_resp (s : State) : (complete s).resp = s.resp :=
  rfl
@[simp] theorem complete_faults (s : State) : (complete s).faults = s.faults :=
  rfl
@[simp] theorem complete_draws (s : State) : (complete s).draws = s.draws :=
  rfl

/-! ### raiseError -/

@[simp] theorem raiseError_rstN (code : ErrCode) (info : Word) (s : State) : (raiseError code info s).rstN = s.rstN :=
  by unfold raiseError; split <;> simp_all
@[simp] theorem raiseError_cmdLatch (code : ErrCode) (info : Word) (s : State) : (raiseError code info s).cmdLatch = s.cmdLatch :=
  by unfold raiseError; split <;> simp_all
@[simp] theorem raiseError_done (code : ErrCode) (info : Word) (s : State) : (raiseError code info s).done = s.done :=
  by unfold raiseError; split <;> simp_all
@[simp] theorem raiseError_err (code : ErrCode) (info : Word) (s : State) : (raiseError code info s).err = true :=
  by unfold raiseError; split <;> simp_all
@[simp] theorem raiseError_errOvf (code : ErrCode) (info : Word) (s : State) : (raiseError code info s).errOvf = (s.err || s.errOvf) :=
  by unfold raiseError; split <;> simp_all
@[simp] theorem raiseError_nonempty (code : ErrCode) (info : Word) (s : State) : (raiseError code info s).nonempty = s.nonempty :=
  by unfold raiseError; split <;> simp_all
@[simp] theorem raiseError_spSeeded (code : ErrCode) (info : Word) (s : State) : (raiseError code info s).spSeeded = s.spSeeded :=
  by unfold raiseError; split <;> simp_all
@[simp] theorem raiseError_active (code : ErrCode) (info : Word) (s : State) : (raiseError code info s).active = s.active :=
  by unfold raiseError; split <;> simp_all
@[simp] theorem raiseError_ieDone (code : ErrCode) (info : Word) (s : State) : (raiseError code info s).ieDone = s.ieDone :=
  by unfold raiseError; split <;> simp_all
@[simp] theorem raiseError_ieErr (code : ErrCode) (info : Word) (s : State) : (raiseError code info s).ieErr = s.ieErr :=
  by unfold raiseError; split <;> simp_all
@[simp] theorem raiseError_combVar (code : ErrCode) (info : Word) (s : State) : (raiseError code info s).combVar = s.combVar :=
  by unfold raiseError; split <;> simp_all
@[simp] theorem raiseError_errCode (code : ErrCode) (info : Word) (s : State) : (raiseError code info s).errCode = (if s.err then s.errCode else code) :=
  by unfold raiseError; split <;> simp_all
@[simp] theorem raiseError_errInfo (code : ErrCode) (info : Word) (s : State) : (raiseError code info s).errInfo = (if s.err then s.errInfo else info) :=
  by unfold raiseError; split <;> simp_all
@[simp] theorem raiseError_blockSize (code : ErrCode) (info : Word) (s : State) : (raiseError code info s).blockSize = s.blockSize :=
  by unfold raiseError; split <;> simp_all
@[simp] theorem raiseError_blkcnt (code : ErrCode) (info : Word) (s : State) : (raiseError code info s).blkcnt = s.blkcnt :=
  by unfold raiseError; split <;> simp_all
@[simp] theorem raiseError_fs (code : ErrCode) (info : Word) (s : State) : (raiseError code info s).fs = s.fs :=
  by unfold raiseError; split <;> simp_all
@[simp] theorem raiseError_fc (code : ErrCode) (info : Word) (s : State) : (raiseError code info s).fc = s.fc :=
  by unfold raiseError; split <;> simp_all
@[simp] theorem raiseError_q (code : ErrCode) (info : Word) (s : State) : (raiseError code info s).q = s.q :=
  by unfold raiseError; split <;> simp_all
@[simp] theorem raiseError_spW (code : ErrCode) (info : Word) (s : State) : (raiseError code info s).spW = s.spW :=
  by unfold raiseError; split <;> simp_all
@[simp] theorem raiseError_spAlpha (code : ErrCode) (info : Word) (s : State) : (raiseError code info s).spAlpha = s.spAlpha :=
  by unfold raiseError; split <;> simp_all
@[simp] theorem raiseError_bqCoeffs (code : ErrCode) (info : Word) (s : State) : (raiseError code info s).bqCoeffs = s.bqCoeffs :=
  by unfold raiseError; split <;> simp_all
@[simp] theorem raiseError_combG1 (code : ErrCode) (info : Word) (s : State) : (raiseError code info s).combG1 = s.combG1 :=
  by unfold raiseError; split <;> simp_all
@[simp] theorem raiseError_combG2 (code : ErrCode) (info : Word) (s : State) : (raiseError code info s).combG2 = s.combG2 :=
  by unfold raiseError; split <;> simp_all
@[simp] theorem raiseError_intY1 (code : ErrCode) (info : Word) (s : State) : (raiseError code info s).intY1 = s.intY1 :=
  by unfold raiseError; split <;> simp_all
@[simp] theorem raiseError_spY1 (code : ErrCode) (info : Word) (s : State) : (raiseError code info s).spY1 = s.spY1 :=
  by unfold raiseError; split <;> simp_all
@[simp] theorem raiseError_bqHist (code : ErrCode) (info : Word) (s : State) : (raiseError code info s).bqHist = s.bqHist :=
  by unfold raiseError; split <;> simp_all
@[simp] theorem raiseError_combHist (code : ErrCode) (info : Word) (s : State) : (raiseError code info s).combHist = s.combHist :=
  by unfold raiseError; split <;> simp_all
@[simp] theorem raiseError_mem (code : ErrCode) (info : Word) (s : State) : (raiseError code info s).mem = s.mem :=
  by unfold raiseError; split <;> simp_all
@[simp] theorem raiseError_agenda (code : ErrCode) (info : Word) (s : State) : (raiseError code info s).agenda = s.agenda :=
  by unfold raiseError; split <;> simp_all
@[simp] theorem raiseError_resp (code : ErrCode) (info : Word) (s : State) : (raiseError code info s).resp = s.resp :=
  by unfold raiseError; split <;> simp_all
@[simp] theorem raiseError_faults (code : ErrCode) (info : Word) (s : State) : (raiseError code info s).faults = s.faults :=
  by unfold raiseError; split <;> simp_all
@[simp] theorem raiseError_draws (code : ErrCode) (info : Word) (s : State) : (raiseError code info s).draws = s.draws :=
  by unfold raiseError; split <;> simp_all

/-! ### acknowledge -/

@[simp] theorem acknowledge_rstN (v : Word) (s : State) : (acknowledge v s).rstN = s.rstN :=
  rfl
@[simp] theorem acknowledge_cmdLatch (v : Word) (s : State) : (acknowledge v s).cmdLatch = s.cmdLatch :=
  rfl
@[simp] theorem acknowledge_done (v : Word) (s : State) : (acknowledge v s).done = (s.done && !v.getLsbD 1) :=
  rfl
@[simp] theorem acknowledge_err (v : Word) (s : State) : (acknowledge v s).err = (s.err && !v.getLsbD 2) :=
  rfl
@[simp] theorem acknowledge_errOvf (v : Word) (s : State) : (acknowledge v s).errOvf = (s.errOvf && !v.getLsbD 3) :=
  rfl
@[simp] theorem acknowledge_nonempty (v : Word) (s : State) : (acknowledge v s).nonempty = s.nonempty :=
  rfl
@[simp] theorem acknowledge_spSeeded (v : Word) (s : State) : (acknowledge v s).spSeeded = s.spSeeded :=
  rfl
@[simp] theorem acknowledge_active (v : Word) (s : State) : (acknowledge v s).active = s.active :=
  rfl
@[simp] theorem acknowledge_ieDone (v : Word) (s : State) : (acknowledge v s).ieDone = s.ieDone :=
  rfl
@[simp] theorem acknowledge_ieErr (v : Word) (s : State) : (acknowledge v s).ieErr = s.ieErr :=
  rfl
@[simp] theorem acknowledge_combVar (v : Word) (s : State) : (acknowledge v s).combVar = s.combVar :=
  rfl
@[simp] theorem acknowledge_errCode (v : Word) (s : State) : (acknowledge v s).errCode = (if v.getLsbD 2 then .none else s.errCode) :=
  rfl
@[simp] theorem acknowledge_errInfo (v : Word) (s : State) : (acknowledge v s).errInfo = (if v.getLsbD 2 then 0#32 else s.errInfo) :=
  rfl
@[simp] theorem acknowledge_blockSize (v : Word) (s : State) : (acknowledge v s).blockSize = s.blockSize :=
  rfl
@[simp] theorem acknowledge_blkcnt (v : Word) (s : State) : (acknowledge v s).blkcnt = s.blkcnt :=
  rfl
@[simp] theorem acknowledge_fs (v : Word) (s : State) : (acknowledge v s).fs = s.fs :=
  rfl
@[simp] theorem acknowledge_fc (v : Word) (s : State) : (acknowledge v s).fc = s.fc :=
  rfl
@[simp] theorem acknowledge_q (v : Word) (s : State) : (acknowledge v s).q = s.q :=
  rfl
@[simp] theorem acknowledge_spW (v : Word) (s : State) : (acknowledge v s).spW = s.spW :=
  rfl
@[simp] theorem acknowledge_spAlpha (v : Word) (s : State) : (acknowledge v s).spAlpha = s.spAlpha :=
  rfl
@[simp] theorem acknowledge_bqCoeffs (v : Word) (s : State) : (acknowledge v s).bqCoeffs = s.bqCoeffs :=
  rfl
@[simp] theorem acknowledge_combG1 (v : Word) (s : State) : (acknowledge v s).combG1 = s.combG1 :=
  rfl
@[simp] theorem acknowledge_combG2 (v : Word) (s : State) : (acknowledge v s).combG2 = s.combG2 :=
  rfl
@[simp] theorem acknowledge_intY1 (v : Word) (s : State) : (acknowledge v s).intY1 = s.intY1 :=
  rfl
@[simp] theorem acknowledge_spY1 (v : Word) (s : State) : (acknowledge v s).spY1 = s.spY1 :=
  rfl
@[simp] theorem acknowledge_bqHist (v : Word) (s : State) : (acknowledge v s).bqHist = s.bqHist :=
  rfl
@[simp] theorem acknowledge_combHist (v : Word) (s : State) : (acknowledge v s).combHist = s.combHist :=
  rfl
@[simp] theorem acknowledge_mem (v : Word) (s : State) : (acknowledge v s).mem = s.mem :=
  rfl
@[simp] theorem acknowledge_agenda (v : Word) (s : State) : (acknowledge v s).agenda = s.agenda :=
  rfl
@[simp] theorem acknowledge_resp (v : Word) (s : State) : (acknowledge v s).resp = s.resp :=
  rfl
@[simp] theorem acknowledge_faults (v : Word) (s : State) : (acknowledge v s).faults = s.faults :=
  rfl
@[simp] theorem acknowledge_draws (v : Word) (s : State) : (acknowledge v s).draws = s.draws :=
  rfl

/-! ### clearKernel -/

@[simp] theorem clearKernel_rstN (k : Kernel) (s : State) : (clearKernel k s).rstN = s.rstN :=
  by cases k <;> rfl
@[simp] theorem clearKernel_cmdLatch (k : Kernel) (s : State) : (clearKernel k s).cmdLatch = s.cmdLatch :=
  by cases k <;> rfl
@[simp] theorem clearKernel_done (k : Kernel) (s : State) : (clearKernel k s).done = s.done :=
  by cases k <;> rfl
@[simp] theorem clearKernel_err (k : Kernel) (s : State) : (clearKernel k s).err = s.err :=
  by cases k <;> rfl
@[simp] theorem clearKernel_errOvf (k : Kernel) (s : State) : (clearKernel k s).errOvf = s.errOvf :=
  by cases k <;> rfl
@[simp] theorem clearKernel_nonempty (k : Kernel) (s : State) : (clearKernel k s).nonempty = s.nonempty :=
  by cases k <;> rfl
@[simp] theorem clearKernel_spSeeded (k : Kernel) (s : State) : (clearKernel k s).spSeeded = (if k = .sp then false else s.spSeeded) :=
  by cases k <;> rfl
@[simp] theorem clearKernel_active (k : Kernel) (s : State) : (clearKernel k s).active = s.active :=
  by cases k <;> rfl
@[simp] theorem clearKernel_ieDone (k : Kernel) (s : State) : (clearKernel k s).ieDone = s.ieDone :=
  by cases k <;> rfl
@[simp] theorem clearKernel_ieErr (k : Kernel) (s : State) : (clearKernel k s).ieErr = s.ieErr :=
  by cases k <;> rfl
@[simp] theorem clearKernel_combVar (k : Kernel) (s : State) : (clearKernel k s).combVar = s.combVar :=
  by cases k <;> rfl
@[simp] theorem clearKernel_errCode (k : Kernel) (s : State) : (clearKernel k s).errCode = s.errCode :=
  by cases k <;> rfl
@[simp] theorem clearKernel_errInfo (k : Kernel) (s : State) : (clearKernel k s).errInfo = s.errInfo :=
  by cases k <;> rfl
@[simp] theorem clearKernel_blockSize (k : Kernel) (s : State) : (clearKernel k s).blockSize = s.blockSize :=
  by cases k <;> rfl
@[simp] theorem clearKernel_blkcnt (k : Kernel) (s : State) : (clearKernel k s).blkcnt = s.blkcnt :=
  by cases k <;> rfl
@[simp] theorem clearKernel_fs (k : Kernel) (s : State) : (clearKernel k s).fs = s.fs :=
  by cases k <;> rfl
@[simp] theorem clearKernel_fc (k : Kernel) (s : State) : (clearKernel k s).fc = s.fc :=
  by cases k <;> rfl
@[simp] theorem clearKernel_q (k : Kernel) (s : State) : (clearKernel k s).q = s.q :=
  by cases k <;> rfl
@[simp] theorem clearKernel_spW (k : Kernel) (s : State) : (clearKernel k s).spW = s.spW :=
  by cases k <;> rfl
@[simp] theorem clearKernel_spAlpha (k : Kernel) (s : State) : (clearKernel k s).spAlpha = s.spAlpha :=
  by cases k <;> rfl
@[simp] theorem clearKernel_bqCoeffs (k : Kernel) (s : State) : (clearKernel k s).bqCoeffs = s.bqCoeffs :=
  by cases k <;> rfl
@[simp] theorem clearKernel_combG1 (k : Kernel) (s : State) : (clearKernel k s).combG1 = s.combG1 :=
  by cases k <;> rfl
@[simp] theorem clearKernel_combG2 (k : Kernel) (s : State) : (clearKernel k s).combG2 = s.combG2 :=
  by cases k <;> rfl
@[simp] theorem clearKernel_intY1 (k : Kernel) (s : State) : (clearKernel k s).intY1 = (if k = .int then 0#32 else s.intY1) :=
  by cases k <;> rfl
@[simp] theorem clearKernel_spY1 (k : Kernel) (s : State) : (clearKernel k s).spY1 = (if k = .sp then 0#32 else s.spY1) :=
  by cases k <;> rfl
@[simp] theorem clearKernel_bqHist (k : Kernel) (s : State) : (clearKernel k s).bqHist = (if k = .bq then BqHist.zero else s.bqHist) :=
  by cases k <;> rfl
@[simp] theorem clearKernel_combHist (k : Kernel) (s : State) : (clearKernel k s).combHist = (if k = .comb then CombHist.zero else s.combHist) :=
  by cases k <;> rfl
@[simp] theorem clearKernel_mem (k : Kernel) (s : State) : (clearKernel k s).mem = s.mem :=
  by cases k <;> rfl
@[simp] theorem clearKernel_agenda (k : Kernel) (s : State) : (clearKernel k s).agenda = s.agenda :=
  by cases k <;> rfl
@[simp] theorem clearKernel_resp (k : Kernel) (s : State) : (clearKernel k s).resp = s.resp :=
  by cases k <;> rfl
@[simp] theorem clearKernel_faults (k : Kernel) (s : State) : (clearKernel k s).faults = s.faults :=
  by cases k <;> rfl
@[simp] theorem clearKernel_draws (k : Kernel) (s : State) : (clearKernel k s).draws = s.draws :=
  by cases k <;> rfl

/-! ### openInvocation -/

@[simp] theorem openInvocation_rstN (k : Kernel) (s : State) : (openInvocation k s).rstN = s.rstN :=
  by cases k <;> rfl
@[simp] theorem openInvocation_cmdLatch (k : Kernel) (s : State) : (openInvocation k s).cmdLatch = s.cmdLatch :=
  by cases k <;> rfl
@[simp] theorem openInvocation_done (k : Kernel) (s : State) : (openInvocation k s).done = s.done :=
  by cases k <;> rfl
@[simp] theorem openInvocation_err (k : Kernel) (s : State) : (openInvocation k s).err = s.err :=
  by cases k <;> rfl
@[simp] theorem openInvocation_errOvf (k : Kernel) (s : State) : (openInvocation k s).errOvf = s.errOvf :=
  by cases k <;> rfl
@[simp] theorem openInvocation_nonempty (k : Kernel) (s : State) : (openInvocation k s).nonempty = false :=
  by cases k <;> rfl
@[simp] theorem openInvocation_spSeeded (k : Kernel) (s : State) : (openInvocation k s).spSeeded = (if k = .sp then false else s.spSeeded) :=
  by cases k <;> rfl
@[simp] theorem openInvocation_active (k : Kernel) (s : State) : (openInvocation k s).active = k :=
  by cases k <;> rfl
@[simp] theorem openInvocation_ieDone (k : Kernel) (s : State) : (openInvocation k s).ieDone = s.ieDone :=
  by cases k <;> rfl
@[simp] theorem openInvocation_ieErr (k : Kernel) (s : State) : (openInvocation k s).ieErr = s.ieErr :=
  by cases k <;> rfl
@[simp] theorem openInvocation_combVar (k : Kernel) (s : State) : (openInvocation k s).combVar = s.combVar :=
  by cases k <;> rfl
@[simp] theorem openInvocation_errCode (k : Kernel) (s : State) : (openInvocation k s).errCode = s.errCode :=
  by cases k <;> rfl
@[simp] theorem openInvocation_errInfo (k : Kernel) (s : State) : (openInvocation k s).errInfo = s.errInfo :=
  by cases k <;> rfl
@[simp] theorem openInvocation_blockSize (k : Kernel) (s : State) : (openInvocation k s).blockSize = s.blockSize :=
  by cases k <;> rfl
@[simp] theorem openInvocation_blkcnt (k : Kernel) (s : State) : (openInvocation k s).blkcnt = 0#32 :=
  by cases k <;> rfl
@[simp] theorem openInvocation_fs (k : Kernel) (s : State) : (openInvocation k s).fs = s.fs :=
  by cases k <;> rfl
@[simp] theorem openInvocation_fc (k : Kernel) (s : State) : (openInvocation k s).fc = s.fc :=
  by cases k <;> rfl
@[simp] theorem openInvocation_q (k : Kernel) (s : State) : (openInvocation k s).q = s.q :=
  by cases k <;> rfl
@[simp] theorem openInvocation_spW (k : Kernel) (s : State) : (openInvocation k s).spW = s.spW :=
  by cases k <;> rfl
@[simp] theorem openInvocation_spAlpha (k : Kernel) (s : State) : (openInvocation k s).spAlpha = s.spAlpha :=
  by cases k <;> rfl
@[simp] theorem openInvocation_bqCoeffs (k : Kernel) (s : State) : (openInvocation k s).bqCoeffs = s.bqCoeffs :=
  by cases k <;> rfl
@[simp] theorem openInvocation_combG1 (k : Kernel) (s : State) : (openInvocation k s).combG1 = s.combG1 :=
  by cases k <;> rfl
@[simp] theorem openInvocation_combG2 (k : Kernel) (s : State) : (openInvocation k s).combG2 = s.combG2 :=
  by cases k <;> rfl
@[simp] theorem openInvocation_intY1 (k : Kernel) (s : State) : (openInvocation k s).intY1 = (if k = .int then 0#32 else s.intY1) :=
  by cases k <;> rfl
@[simp] theorem openInvocation_spY1 (k : Kernel) (s : State) : (openInvocation k s).spY1 = (if k = .sp then 0#32 else s.spY1) :=
  by cases k <;> rfl
@[simp] theorem openInvocation_bqHist (k : Kernel) (s : State) : (openInvocation k s).bqHist = (if k = .bq then BqHist.zero else s.bqHist) :=
  by cases k <;> rfl
@[simp] theorem openInvocation_combHist (k : Kernel) (s : State) : (openInvocation k s).combHist = (if k = .comb then CombHist.zero else s.combHist) :=
  by cases k <;> rfl
@[simp] theorem openInvocation_mem (k : Kernel) (s : State) : (openInvocation k s).mem = s.mem :=
  by cases k <;> rfl
@[simp] theorem openInvocation_agenda (k : Kernel) (s : State) : (openInvocation k s).agenda = s.agenda :=
  by cases k <;> rfl
@[simp] theorem openInvocation_resp (k : Kernel) (s : State) : (openInvocation k s).resp = s.resp :=
  by cases k <;> rfl
@[simp] theorem openInvocation_faults (k : Kernel) (s : State) : (openInvocation k s).faults = s.faults :=
  by cases k <;> rfl
@[simp] theorem openInvocation_draws (k : Kernel) (s : State) : (openInvocation k s).draws = s.draws :=
  by cases k <;> rfl

/-! ### closeInvocation -/

@[simp] theorem closeInvocation_rstN (s : State) : (closeInvocation s).rstN = s.rstN :=
  clearKernel_rstN s.active s
@[simp] theorem closeInvocation_cmdLatch (s : State) : (closeInvocation s).cmdLatch = s.cmdLatch :=
  clearKernel_cmdLatch s.active s
@[simp] theorem closeInvocation_done (s : State) : (closeInvocation s).done = s.done :=
  clearKernel_done s.active s
@[simp] theorem closeInvocation_err (s : State) : (closeInvocation s).err = s.err :=
  clearKernel_err s.active s
@[simp] theorem closeInvocation_errOvf (s : State) : (closeInvocation s).errOvf = s.errOvf :=
  clearKernel_errOvf s.active s
@[simp] theorem closeInvocation_nonempty (s : State) : (closeInvocation s).nonempty = false :=
  rfl
@[simp] theorem closeInvocation_spSeeded (s : State) : (closeInvocation s).spSeeded = (if s.active = .sp then false else s.spSeeded) :=
  clearKernel_spSeeded s.active s
@[simp] theorem closeInvocation_active (s : State) : (closeInvocation s).active = .none :=
  rfl
@[simp] theorem closeInvocation_ieDone (s : State) : (closeInvocation s).ieDone = s.ieDone :=
  clearKernel_ieDone s.active s
@[simp] theorem closeInvocation_ieErr (s : State) : (closeInvocation s).ieErr = s.ieErr :=
  clearKernel_ieErr s.active s
@[simp] theorem closeInvocation_combVar (s : State) : (closeInvocation s).combVar = s.combVar :=
  clearKernel_combVar s.active s
@[simp] theorem closeInvocation_errCode (s : State) : (closeInvocation s).errCode = s.errCode :=
  clearKernel_errCode s.active s
@[simp] theorem closeInvocation_errInfo (s : State) : (closeInvocation s).errInfo = s.errInfo :=
  clearKernel_errInfo s.active s
@[simp] theorem closeInvocation_blockSize (s : State) : (closeInvocation s).blockSize = s.blockSize :=
  clearKernel_blockSize s.active s
@[simp] theorem closeInvocation_blkcnt (s : State) : (closeInvocation s).blkcnt = s.blkcnt :=
  clearKernel_blkcnt s.active s
@[simp] theorem closeInvocation_fs (s : State) : (closeInvocation s).fs = s.fs :=
  clearKernel_fs s.active s
@[simp] theorem closeInvocation_fc (s : State) : (closeInvocation s).fc = s.fc :=
  clearKernel_fc s.active s
@[simp] theorem closeInvocation_q (s : State) : (closeInvocation s).q = s.q :=
  clearKernel_q s.active s
@[simp] theorem closeInvocation_spW (s : State) : (closeInvocation s).spW = s.spW :=
  clearKernel_spW s.active s
@[simp] theorem closeInvocation_spAlpha (s : State) : (closeInvocation s).spAlpha = s.spAlpha :=
  clearKernel_spAlpha s.active s
@[simp] theorem closeInvocation_bqCoeffs (s : State) : (closeInvocation s).bqCoeffs = s.bqCoeffs :=
  clearKernel_bqCoeffs s.active s
@[simp] theorem closeInvocation_combG1 (s : State) : (closeInvocation s).combG1 = s.combG1 :=
  clearKernel_combG1 s.active s
@[simp] theorem closeInvocation_combG2 (s : State) : (closeInvocation s).combG2 = s.combG2 :=
  clearKernel_combG2 s.active s
@[simp] theorem closeInvocation_intY1 (s : State) : (closeInvocation s).intY1 = (if s.active = .int then 0#32 else s.intY1) :=
  clearKernel_intY1 s.active s
@[simp] theorem closeInvocation_spY1 (s : State) : (closeInvocation s).spY1 = (if s.active = .sp then 0#32 else s.spY1) :=
  clearKernel_spY1 s.active s
@[simp] theorem closeInvocation_bqHist (s : State) : (closeInvocation s).bqHist = (if s.active = .bq then BqHist.zero else s.bqHist) :=
  clearKernel_bqHist s.active s
@[simp] theorem closeInvocation_combHist (s : State) : (closeInvocation s).combHist = (if s.active = .comb then CombHist.zero else s.combHist) :=
  clearKernel_combHist s.active s
@[simp] theorem closeInvocation_mem (s : State) : (closeInvocation s).mem = s.mem :=
  clearKernel_mem s.active s
@[simp] theorem closeInvocation_agenda (s : State) : (closeInvocation s).agenda = s.agenda :=
  clearKernel_agenda s.active s
@[simp] theorem closeInvocation_resp (s : State) : (closeInvocation s).resp = s.resp :=
  clearKernel_resp s.active s
@[simp] theorem closeInvocation_faults (s : State) : (closeInvocation s).faults = s.faults :=
  clearKernel_faults s.active s
@[simp] theorem closeInvocation_draws (s : State) : (closeInvocation s).draws = s.draws :=
  clearKernel_draws s.active s

/-! ### countBlock -/

@[simp] theorem countBlock_rstN (s : State) : (countBlock s).rstN = s.rstN :=
  rfl
@[simp] theorem countBlock_cmdLatch (s : State) : (countBlock s).cmdLatch = s.cmdLatch :=
  rfl
@[simp] theorem countBlock_done (s : State) : (countBlock s).done = s.done :=
  rfl
@[simp] theorem countBlock_err (s : State) : (countBlock s).err = s.err :=
  rfl
@[simp] theorem countBlock_errOvf (s : State) : (countBlock s).errOvf = s.errOvf :=
  rfl
@[simp] theorem countBlock_nonempty (s : State) : (countBlock s).nonempty = true :=
  rfl
@[simp] theorem countBlock_spSeeded (s : State) : (countBlock s).spSeeded = s.spSeeded :=
  rfl
@[simp] theorem countBlock_active (s : State) : (countBlock s).active = s.active :=
  rfl
@[simp] theorem countBlock_ieDone (s : State) : (countBlock s).ieDone = s.ieDone :=
  rfl
@[simp] theorem countBlock_ieErr (s : State) : (countBlock s).ieErr = s.ieErr :=
  rfl
@[simp] theorem countBlock_combVar (s : State) : (countBlock s).combVar = s.combVar :=
  rfl
@[simp] theorem countBlock_errCode (s : State) : (countBlock s).errCode = s.errCode :=
  rfl
@[simp] theorem countBlock_errInfo (s : State) : (countBlock s).errInfo = s.errInfo :=
  rfl
@[simp] theorem countBlock_blockSize (s : State) : (countBlock s).blockSize = s.blockSize :=
  rfl
@[simp] theorem countBlock_blkcnt (s : State) : (countBlock s).blkcnt = s.blkcnt + 1#32 :=
  rfl
@[simp] theorem countBlock_fs (s : State) : (countBlock s).fs = s.fs :=
  rfl
@[simp] theorem countBlock_fc (s : State) : (countBlock s).fc = s.fc :=
  rfl
@[simp] theorem countBlock_q (s : State) : (countBlock s).q = s.q :=
  rfl
@[simp] theorem countBlock_spW (s : State) : (countBlock s).spW = s.spW :=
  rfl
@[simp] theorem countBlock_spAlpha (s : State) : (countBlock s).spAlpha = s.spAlpha :=
  rfl
@[simp] theorem countBlock_bqCoeffs (s : State) : (countBlock s).bqCoeffs = s.bqCoeffs :=
  rfl
@[simp] theorem countBlock_combG1 (s : State) : (countBlock s).combG1 = s.combG1 :=
  rfl
@[simp] theorem countBlock_combG2 (s : State) : (countBlock s).combG2 = s.combG2 :=
  rfl
@[simp] theorem countBlock_intY1 (s : State) : (countBlock s).intY1 = s.intY1 :=
  rfl
@[simp] theorem countBlock_spY1 (s : State) : (countBlock s).spY1 = s.spY1 :=
  rfl
@[simp] theorem countBlock_bqHist (s : State) : (countBlock s).bqHist = s.bqHist :=
  rfl
@[simp] theorem countBlock_combHist (s : State) : (countBlock s).combHist = s.combHist :=
  rfl
@[simp] theorem countBlock_mem (s : State) : (countBlock s).mem = s.mem :=
  rfl
@[simp] theorem countBlock_agenda (s : State) : (countBlock s).agenda = s.agenda :=
  rfl
@[simp] theorem countBlock_resp (s : State) : (countBlock s).resp = s.resp :=
  rfl
@[simp] theorem countBlock_faults (s : State) : (countBlock s).faults = s.faults :=
  rfl
@[simp] theorem countBlock_draws (s : State) : (countBlock s).draws = s.draws :=
  rfl

/-! ### resetRegisters -/

@[simp] theorem resetRegisters_rstN (s : State) : (resetRegisters s).rstN = s.rstN :=
  rfl
@[simp] theorem resetRegisters_cmdLatch (s : State) : (resetRegisters s).cmdLatch = State.reset.cmdLatch :=
  rfl
@[simp] theorem resetRegisters_done (s : State) : (resetRegisters s).done = State.reset.done :=
  rfl
@[simp] theorem resetRegisters_err (s : State) : (resetRegisters s).err = State.reset.err :=
  rfl
@[simp] theorem resetRegisters_errOvf (s : State) : (resetRegisters s).errOvf = State.reset.errOvf :=
  rfl
@[simp] theorem resetRegisters_nonempty (s : State) : (resetRegisters s).nonempty = State.reset.nonempty :=
  rfl
@[simp] theorem resetRegisters_spSeeded (s : State) : (resetRegisters s).spSeeded = State.reset.spSeeded :=
  rfl
@[simp] theorem resetRegisters_active (s : State) : (resetRegisters s).active = State.reset.active :=
  rfl
@[simp] theorem resetRegisters_ieDone (s : State) : (resetRegisters s).ieDone = State.reset.ieDone :=
  rfl
@[simp] theorem resetRegisters_ieErr (s : State) : (resetRegisters s).ieErr = State.reset.ieErr :=
  rfl
@[simp] theorem resetRegisters_combVar (s : State) : (resetRegisters s).combVar = State.reset.combVar :=
  rfl
@[simp] theorem resetRegisters_errCode (s : State) : (resetRegisters s).errCode = State.reset.errCode :=
  rfl
@[simp] theorem resetRegisters_errInfo (s : State) : (resetRegisters s).errInfo = State.reset.errInfo :=
  rfl
@[simp] theorem resetRegisters_blockSize (s : State) : (resetRegisters s).blockSize = s.blockSize :=
  rfl
@[simp] theorem resetRegisters_blkcnt (s : State) : (resetRegisters s).blkcnt = State.reset.blkcnt :=
  rfl
@[simp] theorem resetRegisters_fs (s : State) : (resetRegisters s).fs = State.reset.fs :=
  rfl
@[simp] theorem resetRegisters_fc (s : State) : (resetRegisters s).fc = State.reset.fc :=
  rfl
@[simp] theorem resetRegisters_q (s : State) : (resetRegisters s).q = State.reset.q :=
  rfl
@[simp] theorem resetRegisters_spW (s : State) : (resetRegisters s).spW = State.reset.spW :=
  rfl
@[simp] theorem resetRegisters_spAlpha (s : State) : (resetRegisters s).spAlpha = State.reset.spAlpha :=
  rfl
@[simp] theorem resetRegisters_bqCoeffs (s : State) : (resetRegisters s).bqCoeffs = State.reset.bqCoeffs :=
  rfl
@[simp] theorem resetRegisters_combG1 (s : State) : (resetRegisters s).combG1 = State.reset.combG1 :=
  rfl
@[simp] theorem resetRegisters_combG2 (s : State) : (resetRegisters s).combG2 = State.reset.combG2 :=
  rfl
@[simp] theorem resetRegisters_intY1 (s : State) : (resetRegisters s).intY1 = State.reset.intY1 :=
  rfl
@[simp] theorem resetRegisters_spY1 (s : State) : (resetRegisters s).spY1 = State.reset.spY1 :=
  rfl
@[simp] theorem resetRegisters_bqHist (s : State) : (resetRegisters s).bqHist = State.reset.bqHist :=
  rfl
@[simp] theorem resetRegisters_combHist (s : State) : (resetRegisters s).combHist = State.reset.combHist :=
  rfl
@[simp] theorem resetRegisters_mem (s : State) : (resetRegisters s).mem = s.mem :=
  rfl
@[simp] theorem resetRegisters_agenda (s : State) : (resetRegisters s).agenda = s.agenda :=
  rfl
@[simp] theorem resetRegisters_resp (s : State) : (resetRegisters s).resp = s.resp :=
  rfl
@[simp] theorem resetRegisters_faults (s : State) : (resetRegisters s).faults = s.faults :=
  rfl
@[simp] theorem resetRegisters_draws (s : State) : (resetRegisters s).draws = s.draws :=
  rfl

/-! ### pinReset -/

@[simp] theorem pinReset_rstN (s : State) : (pinReset s).rstN = false :=
  rfl
@[simp] theorem pinReset_cmdLatch (s : State) : (pinReset s).cmdLatch = State.reset.cmdLatch :=
  rfl
@[simp] theorem pinReset_done (s : State) : (pinReset s).done = State.reset.done :=
  rfl
@[simp] theorem pinReset_err (s : State) : (pinReset s).err = State.reset.err :=
  rfl
@[simp] theorem pinReset_errOvf (s : State) : (pinReset s).errOvf = State.reset.errOvf :=
  rfl
@[simp] theorem pinReset_nonempty (s : State) : (pinReset s).nonempty = State.reset.nonempty :=
  rfl
@[simp] theorem pinReset_spSeeded (s : State) : (pinReset s).spSeeded = State.reset.spSeeded :=
  rfl
@[simp] theorem pinReset_active (s : State) : (pinReset s).active = State.reset.active :=
  rfl
@[simp] theorem pinReset_ieDone (s : State) : (pinReset s).ieDone = State.reset.ieDone :=
  rfl
@[simp] theorem pinReset_ieErr (s : State) : (pinReset s).ieErr = State.reset.ieErr :=
  rfl
@[simp] theorem pinReset_combVar (s : State) : (pinReset s).combVar = State.reset.combVar :=
  rfl
@[simp] theorem pinReset_errCode (s : State) : (pinReset s).errCode = State.reset.errCode :=
  rfl
@[simp] theorem pinReset_errInfo (s : State) : (pinReset s).errInfo = State.reset.errInfo :=
  rfl
@[simp] theorem pinReset_blockSize (s : State) : (pinReset s).blockSize = s.blockSize :=
  rfl
@[simp] theorem pinReset_blkcnt (s : State) : (pinReset s).blkcnt = State.reset.blkcnt :=
  rfl
@[simp] theorem pinReset_fs (s : State) : (pinReset s).fs = State.reset.fs :=
  rfl
@[simp] theorem pinReset_fc (s : State) : (pinReset s).fc = State.reset.fc :=
  rfl
@[simp] theorem pinReset_q (s : State) : (pinReset s).q = State.reset.q :=
  rfl
@[simp] theorem pinReset_spW (s : State) : (pinReset s).spW = State.reset.spW :=
  rfl
@[simp] theorem pinReset_spAlpha (s : State) : (pinReset s).spAlpha = State.reset.spAlpha :=
  rfl
@[simp] theorem pinReset_bqCoeffs (s : State) : (pinReset s).bqCoeffs = State.reset.bqCoeffs :=
  rfl
@[simp] theorem pinReset_combG1 (s : State) : (pinReset s).combG1 = State.reset.combG1 :=
  rfl
@[simp] theorem pinReset_combG2 (s : State) : (pinReset s).combG2 = State.reset.combG2 :=
  rfl
@[simp] theorem pinReset_intY1 (s : State) : (pinReset s).intY1 = State.reset.intY1 :=
  rfl
@[simp] theorem pinReset_spY1 (s : State) : (pinReset s).spY1 = State.reset.spY1 :=
  rfl
@[simp] theorem pinReset_bqHist (s : State) : (pinReset s).bqHist = State.reset.bqHist :=
  rfl
@[simp] theorem pinReset_combHist (s : State) : (pinReset s).combHist = State.reset.combHist :=
  rfl
@[simp] theorem pinReset_mem (s : State) : (pinReset s).mem = [] :=
  rfl
@[simp] theorem pinReset_agenda (s : State) : (pinReset s).agenda = s.agenda :=
  rfl
@[simp] theorem pinReset_resp (s : State) : (pinReset s).resp = s.resp :=
  rfl
@[simp] theorem pinReset_faults (s : State) : (pinReset s).faults = s.faults :=
  rfl
@[simp] theorem pinReset_draws (s : State) : (pinReset s).draws = s.draws :=
  rfl

/-! ### pinRelease -/

@[simp] theorem pinRelease_rstN (s : State) : (pinRelease s).rstN = true :=
  rfl
@[simp] theorem pinRelease_cmdLatch (s : State) : (pinRelease s).cmdLatch = s.cmdLatch :=
  rfl
@[simp] theorem pinRelease_done (s : State) : (pinRelease s).done = s.done :=
  rfl
@[simp] theorem pinRelease_err (s : State) : (pinRelease s).err = s.err :=
  rfl
@[simp] theorem pinRelease_errOvf (s : State) : (pinRelease s).errOvf = s.errOvf :=
  rfl
@[simp] theorem pinRelease_nonempty (s : State) : (pinRelease s).nonempty = s.nonempty :=
  rfl
@[simp] theorem pinRelease_spSeeded (s : State) : (pinRelease s).spSeeded = s.spSeeded :=
  rfl
@[simp] theorem pinRelease_active (s : State) : (pinRelease s).active = s.active :=
  rfl
@[simp] theorem pinRelease_ieDone (s : State) : (pinRelease s).ieDone = s.ieDone :=
  rfl
@[simp] theorem pinRelease_ieErr (s : State) : (pinRelease s).ieErr = s.ieErr :=
  rfl
@[simp] theorem pinRelease_combVar (s : State) : (pinRelease s).combVar = s.combVar :=
  rfl
@[simp] theorem pinRelease_errCode (s : State) : (pinRelease s).errCode = s.errCode :=
  rfl
@[simp] theorem pinRelease_errInfo (s : State) : (pinRelease s).errInfo = s.errInfo :=
  rfl
@[simp] theorem pinRelease_blockSize (s : State) : (pinRelease s).blockSize = s.blockSize :=
  rfl
@[simp] theorem pinRelease_blkcnt (s : State) : (pinRelease s).blkcnt = s.blkcnt :=
  rfl
@[simp] theorem pinRelease_fs (s : State) : (pinRelease s).fs = s.fs :=
  rfl
@[simp] theorem pinRelease_fc (s : State) : (pinRelease s).fc = s.fc :=
  rfl
@[simp] theorem pinRelease_q (s : State) : (pinRelease s).q = s.q :=
  rfl
@[simp] theorem pinRelease_spW (s : State) : (pinRelease s).spW = s.spW :=
  rfl
@[simp] theorem pinRelease_spAlpha (s : State) : (pinRelease s).spAlpha = s.spAlpha :=
  rfl
@[simp] theorem pinRelease_bqCoeffs (s : State) : (pinRelease s).bqCoeffs = s.bqCoeffs :=
  rfl
@[simp] theorem pinRelease_combG1 (s : State) : (pinRelease s).combG1 = s.combG1 :=
  rfl
@[simp] theorem pinRelease_combG2 (s : State) : (pinRelease s).combG2 = s.combG2 :=
  rfl
@[simp] theorem pinRelease_intY1 (s : State) : (pinRelease s).intY1 = s.intY1 :=
  rfl
@[simp] theorem pinRelease_spY1 (s : State) : (pinRelease s).spY1 = s.spY1 :=
  rfl
@[simp] theorem pinRelease_bqHist (s : State) : (pinRelease s).bqHist = s.bqHist :=
  rfl
@[simp] theorem pinRelease_combHist (s : State) : (pinRelease s).combHist = s.combHist :=
  rfl
@[simp] theorem pinRelease_mem (s : State) : (pinRelease s).mem = s.mem :=
  rfl
@[simp] theorem pinRelease_agenda (s : State) : (pinRelease s).agenda = s.agenda :=
  rfl
@[simp] theorem pinRelease_resp (s : State) : (pinRelease s).resp = s.resp :=
  rfl
@[simp] theorem pinRelease_faults (s : State) : (pinRelease s).faults = s.faults :=
  rfl
@[simp] theorem pinRelease_draws (s : State) : (pinRelease s).draws = s.draws :=
  rfl

/-! ### respond -/

@[simp] theorem respond_rstN (r : Response) (s : State) : (respond r s).rstN = s.rstN :=
  rfl
@[simp] theorem respond_cmdLatch (r : Response) (s : State) : (respond r s).cmdLatch = s.cmdLatch :=
  rfl
@[simp] theorem respond_done (r : Response) (s : State) : (respond r s).done = s.done :=
  rfl
@[simp] theorem respond_err (r : Response) (s : State) : (respond r s).err = s.err :=
  rfl
@[simp] theorem respond_errOvf (r : Response) (s : State) : (respond r s).errOvf = s.errOvf :=
  rfl
@[simp] theorem respond_nonempty (r : Response) (s : State) : (respond r s).nonempty = s.nonempty :=
  rfl
@[simp] theorem respond_spSeeded (r : Response) (s : State) : (respond r s).spSeeded = s.spSeeded :=
  rfl
@[simp] theorem respond_active (r : Response) (s : State) : (respond r s).active = s.active :=
  rfl
@[simp] theorem respond_ieDone (r : Response) (s : State) : (respond r s).ieDone = s.ieDone :=
  rfl
@[simp] theorem respond_ieErr (r : Response) (s : State) : (respond r s).ieErr = s.ieErr :=
  rfl
@[simp] theorem respond_combVar (r : Response) (s : State) : (respond r s).combVar = s.combVar :=
  rfl
@[simp] theorem respond_errCode (r : Response) (s : State) : (respond r s).errCode = s.errCode :=
  rfl
@[simp] theorem respond_errInfo (r : Response) (s : State) : (respond r s).errInfo = s.errInfo :=
  rfl
@[simp] theorem respond_blockSize (r : Response) (s : State) : (respond r s).blockSize = s.blockSize :=
  rfl
@[simp] theorem respond_blkcnt (r : Response) (s : State) : (respond r s).blkcnt = s.blkcnt :=
  rfl
@[simp] theorem respond_fs (r : Response) (s : State) : (respond r s).fs = s.fs :=
  rfl
@[simp] theorem respond_fc (r : Response) (s : State) : (respond r s).fc = s.fc :=
  rfl
@[simp] theorem respond_q (r : Response) (s : State) : (respond r s).q = s.q :=
  rfl
@[simp] theorem respond_spW (r : Response) (s : State) : (respond r s).spW = s.spW :=
  rfl
@[simp] theorem respond_spAlpha (r : Response) (s : State) : (respond r s).spAlpha = s.spAlpha :=
  rfl
@[simp] theorem respond_bqCoeffs (r : Response) (s : State) : (respond r s).bqCoeffs = s.bqCoeffs :=
  rfl
@[simp] theorem respond_combG1 (r : Response) (s : State) : (respond r s).combG1 = s.combG1 :=
  rfl
@[simp] theorem respond_combG2 (r : Response) (s : State) : (respond r s).combG2 = s.combG2 :=
  rfl
@[simp] theorem respond_intY1 (r : Response) (s : State) : (respond r s).intY1 = s.intY1 :=
  rfl
@[simp] theorem respond_spY1 (r : Response) (s : State) : (respond r s).spY1 = s.spY1 :=
  rfl
@[simp] theorem respond_bqHist (r : Response) (s : State) : (respond r s).bqHist = s.bqHist :=
  rfl
@[simp] theorem respond_combHist (r : Response) (s : State) : (respond r s).combHist = s.combHist :=
  rfl
@[simp] theorem respond_mem (r : Response) (s : State) : (respond r s).mem = s.mem :=
  rfl
@[simp] theorem respond_agenda (r : Response) (s : State) : (respond r s).agenda = s.agenda :=
  rfl
@[simp] theorem respond_resp (r : Response) (s : State) : (respond r s).resp = r :=
  rfl
@[simp] theorem respond_faults (r : Response) (s : State) : (respond r s).faults = s.faults :=
  rfl
@[simp] theorem respond_draws (r : Response) (s : State) : (respond r s).draws = s.draws :=
  rfl

/-! ### recordFault -/

@[simp] theorem recordFault_rstN (e : Fault) (s : State) : (recordFault e s).rstN = s.rstN :=
  rfl
@[simp] theorem recordFault_cmdLatch (e : Fault) (s : State) : (recordFault e s).cmdLatch = s.cmdLatch :=
  rfl
@[simp] theorem recordFault_done (e : Fault) (s : State) : (recordFault e s).done = s.done :=
  rfl
@[simp] theorem recordFault_err (e : Fault) (s : State) : (recordFault e s).err = s.err :=
  rfl
@[simp] theorem recordFault_errOvf (e : Fault) (s : State) : (recordFault e s).errOvf = s.errOvf :=
  rfl
@[simp] theorem recordFault_nonempty (e : Fault) (s : State) : (recordFault e s).nonempty = s.nonempty :=
  rfl
@[simp] theorem recordFault_spSeeded (e : Fault) (s : State) : (recordFault e s).spSeeded = s.spSeeded :=
  rfl
@[simp] theorem recordFault_active (e : Fault) (s : State) : (recordFault e s).active = s.active :=
  rfl
@[simp] theorem recordFault_ieDone (e : Fault) (s : State) : (recordFault e s).ieDone = s.ieDone :=
  rfl
@[simp] theorem recordFault_ieErr (e : Fault) (s : State) : (recordFault e s).ieErr = s.ieErr :=
  rfl
@[simp] theorem recordFault_combVar (e : Fault) (s : State) : (recordFault e s).combVar = s.combVar :=
  rfl
@[simp] theorem recordFault_errCode (e : Fault) (s : State) : (recordFault e s).errCode = s.errCode :=
  rfl
@[simp] theorem recordFault_errInfo (e : Fault) (s : State) : (recordFault e s).errInfo = s.errInfo :=
  rfl
@[simp] theorem recordFault_blockSize (e : Fault) (s : State) : (recordFault e s).blockSize = s.blockSize :=
  rfl
@[simp] theorem recordFault_blkcnt (e : Fault) (s : State) : (recordFault e s).blkcnt = s.blkcnt :=
  rfl
@[simp] theorem recordFault_fs (e : Fault) (s : State) : (recordFault e s).fs = s.fs :=
  rfl
@[simp] theorem recordFault_fc (e : Fault) (s : State) : (recordFault e s).fc = s.fc :=
  rfl
@[simp] theorem recordFault_q (e : Fault) (s : State) : (recordFault e s).q = s.q :=
  rfl
@[simp] theorem recordFault_spW (e : Fault) (s : State) : (recordFault e s).spW = s.spW :=
  rfl
@[simp] theorem recordFault_spAlpha (e : Fault) (s : State) : (recordFault e s).spAlpha = s.spAlpha :=
  rfl
@[simp] theorem recordFault_bqCoeffs (e : Fault) (s : State) : (recordFault e s).bqCoeffs = s.bqCoeffs :=
  rfl
@[simp] theorem recordFault_combG1 (e : Fault) (s : State) : (recordFault e s).combG1 = s.combG1 :=
  rfl
@[simp] theorem recordFault_combG2 (e : Fault) (s : State) : (recordFault e s).combG2 = s.combG2 :=
  rfl
@[simp] theorem recordFault_intY1 (e : Fault) (s : State) : (recordFault e s).intY1 = s.intY1 :=
  rfl
@[simp] theorem recordFault_spY1 (e : Fault) (s : State) : (recordFault e s).spY1 = s.spY1 :=
  rfl
@[simp] theorem recordFault_bqHist (e : Fault) (s : State) : (recordFault e s).bqHist = s.bqHist :=
  rfl
@[simp] theorem recordFault_combHist (e : Fault) (s : State) : (recordFault e s).combHist = s.combHist :=
  rfl
@[simp] theorem recordFault_mem (e : Fault) (s : State) : (recordFault e s).mem = s.mem :=
  rfl
@[simp] theorem recordFault_agenda (e : Fault) (s : State) : (recordFault e s).agenda = s.agenda :=
  rfl
@[simp] theorem recordFault_resp (e : Fault) (s : State) : (recordFault e s).resp = s.resp :=
  rfl
@[simp] theorem recordFault_faults (e : Fault) (s : State) : (recordFault e s).faults = s.faults ++ [e] :=
  rfl
@[simp] theorem recordFault_draws (e : Fault) (s : State) : (recordFault e s).draws = s.draws :=
  rfl

/-! ### respondFree -/

@[simp] theorem respondFree_rstN (s : State) : (respondFree s).rstN = s.rstN :=
  rfl
@[simp] theorem respondFree_cmdLatch (s : State) : (respondFree s).cmdLatch = s.cmdLatch :=
  rfl
@[simp] theorem respondFree_done (s : State) : (respondFree s).done = s.done :=
  rfl
@[simp] theorem respondFree_err (s : State) : (respondFree s).err = s.err :=
  rfl
@[simp] theorem respondFree_errOvf (s : State) : (respondFree s).errOvf = s.errOvf :=
  rfl
@[simp] theorem respondFree_nonempty (s : State) : (respondFree s).nonempty = s.nonempty :=
  rfl
@[simp] theorem respondFree_spSeeded (s : State) : (respondFree s).spSeeded = s.spSeeded :=
  rfl
@[simp] theorem respondFree_active (s : State) : (respondFree s).active = s.active :=
  rfl
@[simp] theorem respondFree_ieDone (s : State) : (respondFree s).ieDone = s.ieDone :=
  rfl
@[simp] theorem respondFree_ieErr (s : State) : (respondFree s).ieErr = s.ieErr :=
  rfl
@[simp] theorem respondFree_combVar (s : State) : (respondFree s).combVar = s.combVar :=
  rfl
@[simp] theorem respondFree_errCode (s : State) : (respondFree s).errCode = s.errCode :=
  rfl
@[simp] theorem respondFree_errInfo (s : State) : (respondFree s).errInfo = s.errInfo :=
  rfl
@[simp] theorem respondFree_blockSize (s : State) : (respondFree s).blockSize = s.blockSize :=
  rfl
@[simp] theorem respondFree_blkcnt (s : State) : (respondFree s).blkcnt = s.blkcnt :=
  rfl
@[simp] theorem respondFree_fs (s : State) : (respondFree s).fs = s.fs :=
  rfl
@[simp] theorem respondFree_fc (s : State) : (respondFree s).fc = s.fc :=
  rfl
@[simp] theorem respondFree_q (s : State) : (respondFree s).q = s.q :=
  rfl
@[simp] theorem respondFree_spW (s : State) : (respondFree s).spW = s.spW :=
  rfl
@[simp] theorem respondFree_spAlpha (s : State) : (respondFree s).spAlpha = s.spAlpha :=
  rfl
@[simp] theorem respondFree_bqCoeffs (s : State) : (respondFree s).bqCoeffs = s.bqCoeffs :=
  rfl
@[simp] theorem respondFree_combG1 (s : State) : (respondFree s).combG1 = s.combG1 :=
  rfl
@[simp] theorem respondFree_combG2 (s : State) : (respondFree s).combG2 = s.combG2 :=
  rfl
@[simp] theorem respondFree_intY1 (s : State) : (respondFree s).intY1 = s.intY1 :=
  rfl
@[simp] theorem respondFree_spY1 (s : State) : (respondFree s).spY1 = s.spY1 :=
  rfl
@[simp] theorem respondFree_bqHist (s : State) : (respondFree s).bqHist = s.bqHist :=
  rfl
@[simp] theorem respondFree_combHist (s : State) : (respondFree s).combHist = s.combHist :=
  rfl
@[simp] theorem respondFree_mem (s : State) : (respondFree s).mem = s.mem :=
  rfl
@[simp] theorem respondFree_agenda (s : State) : (respondFree s).agenda = s.agenda :=
  rfl
@[simp] theorem respondFree_resp (s : State) : (respondFree s).resp = .data (Config.freeWord s.draws) :=
  rfl
@[simp] theorem respondFree_faults (s : State) : (respondFree s).faults = s.faults :=
  rfl
@[simp] theorem respondFree_draws (s : State) : (respondFree s).draws = s.draws + 1 :=
  rfl

/-! ### setCtrl -/

@[simp] theorem setCtrl_rstN (v : Word) (s : State) : (setCtrl v s).rstN = s.rstN :=
  rfl
@[simp] theorem setCtrl_cmdLatch (v : Word) (s : State) : (setCtrl v s).cmdLatch = s.cmdLatch :=
  rfl
@[simp] theorem setCtrl_done (v : Word) (s : State) : (setCtrl v s).done = s.done :=
  rfl
@[simp] theorem setCtrl_err (v : Word) (s : State) : (setCtrl v s).err = s.err :=
  rfl
@[simp] theorem setCtrl_errOvf (v : Word) (s : State) : (setCtrl v s).errOvf = s.errOvf :=
  rfl
@[simp] theorem setCtrl_nonempty (v : Word) (s : State) : (setCtrl v s).nonempty = s.nonempty :=
  rfl
@[simp] theorem setCtrl_spSeeded (v : Word) (s : State) : (setCtrl v s).spSeeded = s.spSeeded :=
  rfl
@[simp] theorem setCtrl_active (v : Word) (s : State) : (setCtrl v s).active = s.active :=
  rfl
@[simp] theorem setCtrl_ieDone (v : Word) (s : State) : (setCtrl v s).ieDone = v.getLsbD 0 :=
  rfl
@[simp] theorem setCtrl_ieErr (v : Word) (s : State) : (setCtrl v s).ieErr = v.getLsbD 1 :=
  rfl
@[simp] theorem setCtrl_combVar (v : Word) (s : State) : (setCtrl v s).combVar = ctrlVarField v :=
  rfl
@[simp] theorem setCtrl_errCode (v : Word) (s : State) : (setCtrl v s).errCode = s.errCode :=
  rfl
@[simp] theorem setCtrl_errInfo (v : Word) (s : State) : (setCtrl v s).errInfo = s.errInfo :=
  rfl
@[simp] theorem setCtrl_blockSize (v : Word) (s : State) : (setCtrl v s).blockSize = s.blockSize :=
  rfl
@[simp] theorem setCtrl_blkcnt (v : Word) (s : State) : (setCtrl v s).blkcnt = s.blkcnt :=
  rfl
@[simp] theorem setCtrl_fs (v : Word) (s : State) : (setCtrl v s).fs = s.fs :=
  rfl
@[simp] theorem setCtrl_fc (v : Word) (s : State) : (setCtrl v s).fc = s.fc :=
  rfl
@[simp] theorem setCtrl_q (v : Word) (s : State) : (setCtrl v s).q = s.q :=
  rfl
@[simp] theorem setCtrl_spW (v : Word) (s : State) : (setCtrl v s).spW = s.spW :=
  rfl
@[simp] theorem setCtrl_spAlpha (v : Word) (s : State) : (setCtrl v s).spAlpha = s.spAlpha :=
  rfl
@[simp] theorem setCtrl_bqCoeffs (v : Word) (s : State) : (setCtrl v s).bqCoeffs = s.bqCoeffs :=
  rfl
@[simp] theorem setCtrl_combG1 (v : Word) (s : State) : (setCtrl v s).combG1 = s.combG1 :=
  rfl
@[simp] theorem setCtrl_combG2 (v : Word) (s : State) : (setCtrl v s).combG2 = s.combG2 :=
  rfl
@[simp] theorem setCtrl_intY1 (v : Word) (s : State) : (setCtrl v s).intY1 = s.intY1 :=
  rfl
@[simp] theorem setCtrl_spY1 (v : Word) (s : State) : (setCtrl v s).spY1 = s.spY1 :=
  rfl
@[simp] theorem setCtrl_bqHist (v : Word) (s : State) : (setCtrl v s).bqHist = s.bqHist :=
  rfl
@[simp] theorem setCtrl_combHist (v : Word) (s : State) : (setCtrl v s).combHist = s.combHist :=
  rfl
@[simp] theorem setCtrl_mem (v : Word) (s : State) : (setCtrl v s).mem = s.mem :=
  rfl
@[simp] theorem setCtrl_agenda (v : Word) (s : State) : (setCtrl v s).agenda = s.agenda :=
  rfl
@[simp] theorem setCtrl_resp (v : Word) (s : State) : (setCtrl v s).resp = s.resp :=
  rfl
@[simp] theorem setCtrl_faults (v : Word) (s : State) : (setCtrl v s).faults = s.faults :=
  rfl
@[simp] theorem setCtrl_draws (v : Word) (s : State) : (setCtrl v s).draws = s.draws :=
  rfl

/-! ### storeReg -/

@[simp] theorem storeReg_rstN (r : Reg) (v : Word) (s : State) : (storeReg r v s).rstN = s.rstN :=
  by cases r <;> rfl
@[simp] theorem storeReg_cmdLatch (r : Reg) (v : Word) (s : State) : (storeReg r v s).cmdLatch = s.cmdLatch :=
  by cases r <;> rfl
@[simp] theorem storeReg_done (r : Reg) (v : Word) (s : State) : (storeReg r v s).done = s.done :=
  by cases r <;> rfl
@[simp] theorem storeReg_err (r : Reg) (v : Word) (s : State) : (storeReg r v s).err = s.err :=
  by cases r <;> rfl
@[simp] theorem storeReg_errOvf (r : Reg) (v : Word) (s : State) : (storeReg r v s).errOvf = s.errOvf :=
  by cases r <;> rfl
@[simp] theorem storeReg_nonempty (r : Reg) (v : Word) (s : State) : (storeReg r v s).nonempty = s.nonempty :=
  by cases r <;> rfl
@[simp] theorem storeReg_spSeeded (r : Reg) (v : Word) (s : State) : (storeReg r v s).spSeeded = s.spSeeded :=
  by cases r <;> rfl
@[simp] theorem storeReg_active (r : Reg) (v : Word) (s : State) : (storeReg r v s).active = s.active :=
  by cases r <;> rfl
@[simp] theorem storeReg_ieDone (r : Reg) (v : Word) (s : State) : (storeReg r v s).ieDone = s.ieDone :=
  by cases r <;> rfl
@[simp] theorem storeReg_ieErr (r : Reg) (v : Word) (s : State) : (storeReg r v s).ieErr = s.ieErr :=
  by cases r <;> rfl
@[simp] theorem storeReg_combVar (r : Reg) (v : Word) (s : State) : (storeReg r v s).combVar = s.combVar :=
  by cases r <;> rfl
@[simp] theorem storeReg_errCode (r : Reg) (v : Word) (s : State) : (storeReg r v s).errCode = s.errCode :=
  by cases r <;> rfl
@[simp] theorem storeReg_errInfo (r : Reg) (v : Word) (s : State) : (storeReg r v s).errInfo = s.errInfo :=
  by cases r <;> rfl
@[simp] theorem storeReg_blockSize (r : Reg) (v : Word) (s : State) : (storeReg r v s).blockSize = s.blockSize :=
  by cases r <;> rfl
@[simp] theorem storeReg_blkcnt (r : Reg) (v : Word) (s : State) : (storeReg r v s).blkcnt = s.blkcnt :=
  by cases r <;> rfl
@[simp] theorem storeReg_intY1 (r : Reg) (v : Word) (s : State) : (storeReg r v s).intY1 = s.intY1 :=
  by cases r <;> rfl
@[simp] theorem storeReg_spY1 (r : Reg) (v : Word) (s : State) : (storeReg r v s).spY1 = s.spY1 :=
  by cases r <;> rfl
@[simp] theorem storeReg_bqHist (r : Reg) (v : Word) (s : State) : (storeReg r v s).bqHist = s.bqHist :=
  by cases r <;> rfl
@[simp] theorem storeReg_combHist (r : Reg) (v : Word) (s : State) : (storeReg r v s).combHist = s.combHist :=
  by cases r <;> rfl
@[simp] theorem storeReg_mem (r : Reg) (v : Word) (s : State) : (storeReg r v s).mem = s.mem :=
  by cases r <;> rfl
@[simp] theorem storeReg_agenda (r : Reg) (v : Word) (s : State) : (storeReg r v s).agenda = s.agenda :=
  by cases r <;> rfl
@[simp] theorem storeReg_resp (r : Reg) (v : Word) (s : State) : (storeReg r v s).resp = s.resp :=
  by cases r <;> rfl
@[simp] theorem storeReg_faults (r : Reg) (v : Word) (s : State) : (storeReg r v s).faults = s.faults :=
  by cases r <;> rfl
@[simp] theorem storeReg_draws (r : Reg) (v : Word) (s : State) : (storeReg r v s).draws = s.draws :=
  by cases r <;> rfl

end Sys2Proof.Machine
end

