-- ==== Sys2Proof/Laws/Memory.lean ====
section
/-! SUPPORT. The buffer's laws: a read after a write, the frame of a write, the canonical form kept, and the same for
words and blocks (10_state R53, 20_memory R82, R87, R90). -/

namespace Sys2Proof.Machine

/-! ## Bytes -/

theorem readByte_writeByte_same (m : Memory) (a : Nat) (b : Byte) : readByte (writeByte m a b) a = some b := by
  induction m with
  | nil => simp [writeByte, readByte]
  | cons c rest ih =>
    obtain ⟨k, d⟩ := c
    simp only [writeByte]
    split
    · simp [readByte]
    · split
      · simp [readByte]
      · rename_i h1 h2
        have : ¬ k = a := fun h => h2 h.symm
        simp [readByte, this, ih]

theorem readByte_writeByte_of_ne {a a' : Nat} (m : Memory) (b : Byte) (h : a' ≠ a) :
    readByte (writeByte m a b) a' = readByte m a' := by
  induction m with
  | nil => simp [writeByte, readByte, h.symm]
  | cons c rest ih =>
    obtain ⟨k, d⟩ := c
    simp only [writeByte]
    split
    · simp [readByte, h.symm]
    · split
      · rename_i h1 h2
        subst h2
        simp [readByte, h.symm]
      · simp only [readByte, ih]

theorem mem_writeByte {m : Memory} {a : Nat} {b : Byte} {c : Host.Cell} (h : c ∈ writeByte m a b) :
    c = (a, b) ∨ c ∈ m := by
  induction m with
  | nil => simpa [writeByte] using h
  | cons d rest ih =>
    obtain ⟨k, e⟩ := d
    simp only [writeByte] at h
    split at h
    · simpa using h
    · split at h
      · simp only [List.mem_cons] at h ⊢
        tauto
      · simp only [List.mem_cons] at h ⊢
        rcases h with h | h
        · tauto
        · rcases ih h with h | h <;> tauto

theorem writeByte_wf {m : Memory} (a : Nat) (b : Byte) (h : Memory.wf m) : Memory.wf (writeByte m a b) := by
  induction m with
  | nil => simp [writeByte, Memory.wf]
  | cons d rest ih =>
    obtain ⟨k, e⟩ := d
    obtain ⟨hk, hr⟩ := List.pairwise_cons.1 h
    simp only [writeByte]
    split
    · rename_i hlt
      refine List.pairwise_cons.2 ⟨fun c hc => ?_, h⟩
      rcases List.mem_cons.1 hc with rfl | hc
      · exact hlt
      · exact lt_trans hlt (hk c hc)
    · split
      · rename_i heq
        subst heq
        exact List.pairwise_cons.2 ⟨hk, hr⟩
      · rename_i h1 h2
        refine List.pairwise_cons.2 ⟨fun c hc => ?_, ih hr⟩
        rcases mem_writeByte hc with rfl | hc
        · show k < a
          omega
        · exact hk c hc

/-! ## Words -/

theorem lanes_append (v : Word) : lane v 3 ++ lane v 2 ++ lane v 1 ++ lane v 0 = v := by
  apply BitVec.eq_of_getLsbD_eq
  intro i hi
  simp only [lane, BitVec.getLsbD_append, BitVec.getLsbD_extractLsb']
  have : i < 8 ∨ (8 ≤ i ∧ i < 16) ∨ (16 ≤ i ∧ i < 24) ∨ (24 ≤ i ∧ i < 32) := by omega
  rcases this with h | ⟨h, h'⟩ | ⟨h, h'⟩ | ⟨h, h'⟩
  · simp [h]
  · simp [show ¬ i < 8 by omega, show i - 8 < 8 by omega, show 8 + (i - 8) = i by omega]
  · simp [show ¬ i < 8 by omega, show ¬ i - 8 < 8 by omega, show i - 8 - 8 < 8 by omega,
      show 16 + (i - 8 - 8) = i by omega]
  · simp [show ¬ i < 8 by omega, show ¬ i - 8 < 8 by omega, show ¬ i - 8 - 8 < 8 by omega,
      show i - 8 - 8 - 8 < 8 by omega, show 24 + (i - 8 - 8 - 8) = i by omega]

/-- The four bytes that a word's write leaves. -/
theorem readByte_writeWord_lane (m : Memory) (a : Nat) (v : Word) {k : Nat} (hk : k < 4) :
    readByte (writeWord m a v) (a + k) = some (lane v k) := by
  have : k = 0 ∨ k = 1 ∨ k = 2 ∨ k = 3 := by omega
  rcases this with rfl | rfl | rfl | rfl <;>
    simp [writeWord, readByte_writeByte_same, readByte_writeByte_of_ne]

/-- A word's write leaves every byte outside the word alone. -/
theorem readByte_writeWord_of_outside {a x : Nat} (m : Memory) (v : Word) (h : x < a ∨ a + 4 ≤ x) :
    readByte (writeWord m a v) x = readByte m x := by
  simp only [writeWord]
  rw [readByte_writeByte_of_ne _ _ (by omega), readByte_writeByte_of_ne _ _ (by omega),
    readByte_writeByte_of_ne _ _ (by omega), readByte_writeByte_of_ne _ _ (by omega)]

@[simp] theorem readWord_writeWord_same (m : Memory) (a : Nat) (v : Word) :
    readWord (writeWord m a v) a = some v := by
  have h0 := readByte_writeWord_lane m a v (k := 0) (by omega)
  have h1 := readByte_writeWord_lane m a v (k := 1) (by omega)
  have h2 := readByte_writeWord_lane m a v (k := 2) (by omega)
  have h3 := readByte_writeWord_lane m a v (k := 3) (by omega)
  simp only [Nat.add_zero] at h0
  simp only [readWord, h0, h1, h2, h3, lanes_append]

theorem readWord_writeWord_of_outside {a a' : Nat} (m : Memory) (v : Word) (h : a' + 4 ≤ a ∨ a + 4 ≤ a') :
    readWord (writeWord m a v) a' = readWord m a' := by
  simp only [readWord]
  rw [readByte_writeWord_of_outside m v (by omega), readByte_writeWord_of_outside m v (by omega),
    readByte_writeWord_of_outside m v (by omega), readByte_writeWord_of_outside m v (by omega)]

theorem mem_writeWord {m : Memory} {a : Nat} {v : Word} {c : Host.Cell} (h : c ∈ writeWord m a v) :
    (a ≤ c.1 ∧ c.1 < a + 4) ∨ c ∈ m := by
  simp only [writeWord] at h
  rcases mem_writeByte h with rfl | h
  · left; simp
  rcases mem_writeByte h with rfl | h
  · left; simp
  rcases mem_writeByte h with rfl | h
  · left; simp
  rcases mem_writeByte h with rfl | h
  · left; simp
  · exact .inr h

theorem writeWord_wf {m : Memory} (a : Nat) (v : Word) (h : Memory.wf m) : Memory.wf (writeWord m a v) :=
  writeByte_wf _ _ (writeByte_wf _ _ (writeByte_wf _ _ (writeByte_wf _ _ h)))

/-! ## Buffer words and blocks -/

@[simp] theorem readBuf_writeBuf_same (m : Memory) (i : Nat) (v : Word) : readBuf (writeBuf m i v) i = some v :=
  readWord_writeWord_same m (bufAddr i) v

theorem readBuf_writeBuf_of_ne {i j : Nat} (m : Memory) (v : Word) (h : j ≠ i) :
    readBuf (writeBuf m i v) j = readBuf m j :=
  readWord_writeWord_of_outside m v (by simp only [bufAddr]; omega)

theorem writeBuf_wf {m : Memory} (i : Nat) (v : Word) (h : Memory.wf m) : Memory.wf (writeBuf m i v) :=
  writeWord_wf _ _ h

/-- Which bytes a block's write leaves alone. -/
theorem readByte_writeBlock_of_outside {x : Nat} (m : Memory) (i : Nat) (ys : List Word)
    (h : x < bufAddr i ∨ bufAddr (i + ys.length) ≤ x) : readByte (writeBlock m i ys) x = readByte m x := by
  induction ys generalizing m i with
  | nil => rfl
  | cons y rest ih =>
    simp only [List.length_cons, bufAddr] at h
    rw [writeBlock, ih _ _ (by simp only [bufAddr]; omega), writeBuf,
      readByte_writeWord_of_outside _ _ (by simp only [bufAddr]; omega)]

theorem readBuf_writeBlock_of_lt {i j : Nat} (m : Memory) (ys : List Word) (h : j < i) :
    readBuf (writeBlock m i ys) j = readBuf m j := by
  induction ys generalizing m i with
  | nil => rfl
  | cons y rest ih => rw [writeBlock, ih _ (by omega), readBuf_writeBuf_of_ne _ _ (by omega)]

theorem readBuf_writeBlock (m : Memory) (i : Nat) (ys : List Word) {j : Nat} (h : j < ys.length) :
    readBuf (writeBlock m i ys) (i + j) = ys[j]? := by
  induction ys generalizing m i j with
  | nil => simp at h
  | cons y rest ih =>
    cases j with
    | zero => rw [writeBlock, Nat.add_zero, readBuf_writeBlock_of_lt _ _ (by omega)]; simp
    | succ j =>
      simp only [List.length_cons] at h
      have := ih (writeBuf m i y) (i + 1) (j := j) (by omega)
      rw [writeBlock, show i + (j + 1) = i + 1 + j by omega, this]
      simp

/-- The buffer holds the block that has just been written to it. -/
theorem holdsBlock_writeBlock (m : Memory) (ys : List Word) : holdsBlock (writeBlock m 0 ys) ys := fun j h => by
  have := readBuf_writeBlock m 0 ys h
  rwa [Nat.zero_add] at this

theorem writeBlock_wf {m : Memory} (i : Nat) (ys : List Word) (h : Memory.wf m) : Memory.wf (writeBlock m i ys) := by
  induction ys generalizing m i with
  | nil => exact h
  | cons y rest ih => exact ih _ (writeBuf_wf _ _ h)

theorem mem_writeBlock {m : Memory} {i : Nat} {ys : List Word} {c : Host.Cell} (h : c ∈ writeBlock m i ys) :
    (bufAddr i ≤ c.1 ∧ c.1 < bufAddr (i + ys.length)) ∨ c ∈ m := by
  induction ys generalizing m i with
  | nil => exact .inr h
  | cons y rest ih =>
    simp only [List.length_cons, bufAddr] at ih ⊢
    rcases ih h with h | h
    · left; omega
    · rcases mem_writeWord h with h | h
      · left; simp only [bufAddr] at h; omega
      · exact .inr h

end Sys2Proof.Machine
end

