-- ==== Sys2Proof/Laws/Sweep.lean ====
section
/-! SUPPORT. Everything the sample loop can do (20_memory R86, R87): over a written block it is the recurrence run over
the block's samples, and otherwise it stops at the first unwritten word. -/

namespace Sys2Proof.Machine

variable {H : Type} (f : H → Word → H × Word)

/-- The buffer holds at most one block of a length. -/
theorem holdsBlock_unique {m : Memory} {xs ys : List Word} (hx : holdsBlock m xs) (hy : holdsBlock m ys)
    (hl : xs.length = ys.length) : xs = ys := by
  apply List.ext_getElem?
  intro i
  by_cases hi : i < xs.length
  · rw [← hx i hi, ← hy i (hl ▸ hi)]
  · rw [List.getElem?_eq_none (by omega), List.getElem?_eq_none (by omega)]

@[simp] theorem scan_length (h : H) (xs : List Word) : (scan f h xs).2.length = xs.length := by
  induction xs generalizing h with
  | nil => rfl
  | cons x rest ih => simp [scan, ih]

/-- A recurrence over a concatenation continues from the history the first part leaves. -/
theorem scan_append (h : H) (xs ys : List Word) :
    scan f h (xs ++ ys) = ((scan f (scan f h xs).1 ys).1, (scan f h xs).2 ++ (scan f (scan f h xs).1 ys).2) := by
  induction xs generalizing h with
  | nil => rfl
  | cons x rest ih => simp [scan, ih]

/-- The loop over a written stretch of the buffer. -/
theorem sweep_of_holds (i : Nat) (h : H) (m : Memory) (xs : List Word)
    (hm : ∀ j, j < xs.length → readBuf m (i + j) = xs[j]?) :
    sweep f xs.length i h m = .ok ((scan f h xs).1, writeBlock m i (scan f h xs).2) := by
  induction xs generalizing i h m with
  | nil => rfl
  | cons x rest ih =>
    have h0 : readBuf m i = some x := by simpa using hm 0 (by simp)
    simp only [List.length_cons, sweep, h0, scan, writeBlock]
    refine ih _ _ _ fun j hj => ?_
    rw [readBuf_writeBuf_of_ne _ _ (by omega)]
    have := hm (j + 1) (by simpa using hj)
    simpa [Nat.add_comm, Nat.add_left_comm] using this

/-- The loop over a whole block, from BUF[0] on. -/
theorem sweep_block (h : H) (m : Memory) (xs : List Word) (hm : holdsBlock m xs) :
    sweep f xs.length 0 h m = .ok ((scan f h xs).1, writeBlock m 0 (scan f h xs).2) :=
  sweep_of_holds f 0 h m xs fun j hj => by simpa using hm j hj

/-- The loop stops at the first unwritten word. -/
theorem sweep_unwritten {n k : Nat} (i : Nat) (h : H) (m : Memory) (hk : k < n)
    (hw : ∀ j, j < k → (readBuf m (i + j)).isSome) (hu : readBuf m (i + k) = none) :
    sweep f n i h m = .error (i + k) := by
  induction k generalizing n i h m with
  | zero =>
    obtain ⟨n, rfl⟩ : ∃ n', n = n' + 1 := ⟨n - 1, by omega⟩
    simp only [Nat.add_zero] at hu ⊢
    simp [sweep, hu]
  | succ k ih =>
    obtain ⟨n, rfl⟩ : ∃ n', n = n' + 1 := ⟨n - 1, by omega⟩
    obtain ⟨x, hx⟩ := Option.isSome_iff_exists.1 (hw 0 (by omega))
    simp only [Nat.add_zero] at hx
    simp only [sweep, hx]
    have hw' : ∀ j, j < k → (readBuf (writeBuf m i (f h x).2) (i + 1 + j)).isSome := fun j hj => by
      rw [readBuf_writeBuf_of_ne _ _ (by omega), show i + 1 + j = i + (j + 1) by omega]
      exact hw (j + 1) (by omega)
    have hu' : readBuf (writeBuf m i (f h x).2) (i + 1 + k) = none := by
      rw [readBuf_writeBuf_of_ne _ _ (by omega), show i + 1 + k = i + (k + 1) by omega]
      exact hu
    rw [ih (i + 1) _ _ (by omega) hw' hu']
    congr 1
    omega

/-- A loop that stops has met the first unwritten word of its stretch. -/
theorem sweep_error {n i k : Nat} {h : H} {m : Memory} (hs : sweep f n i h m = .error k) :
    ∃ d, k = i + d ∧ d < n ∧ readBuf m k = none ∧ ∀ j, j < d → (readBuf m (i + j)).isSome := by
  induction n generalizing i h m with
  | zero => cases hs
  | succ n ih =>
    simp only [sweep] at hs
    split at hs
    · rename_i hx
      obtain rfl : i = k := Except.error.inj hs
      exact ⟨0, rfl, by omega, hx, fun j hj => absurd hj (Nat.not_lt_zero j)⟩
    · rename_i x hx
      obtain ⟨d, rfl, hd, hu, hw⟩ := ih hs
      rw [readBuf_writeBuf_of_ne _ _ (by omega)] at hu
      refine ⟨d + 1, by omega, by omega, hu, fun j hj => ?_⟩
      cases j with
      | zero => simp [hx]
      | succ j =>
        have := hw j (by omega)
        rw [readBuf_writeBuf_of_ne _ _ (by omega)] at this
        simpa [Nat.add_comm, Nat.add_left_comm] using this

/-- A loop that ends has read a written block, and is the recurrence over it. -/
theorem sweep_ok {n i : Nat} {h h' : H} {m m' : Memory} (hs : sweep f n i h m = .ok (h', m')) :
    ∃ xs : List Word, xs.length = n ∧ (∀ j, j < n → readBuf m (i + j) = xs[j]?) ∧
      h' = (scan f h xs).1 ∧ m' = writeBlock m i (scan f h xs).2 := by
  induction n generalizing i h m with
  | zero =>
    simp only [sweep, Except.ok.injEq, Prod.mk.injEq] at hs
    exact ⟨[], rfl, by simp, hs.1.symm, hs.2.symm⟩
  | succ n ih =>
    simp only [sweep] at hs
    split at hs
    · cases hs
    · rename_i x hx
      obtain ⟨xs, hl, hr, h1, h2⟩ := ih hs
      refine ⟨x :: xs, by simp [hl], fun j hj => ?_, by simpa [scan] using h1, by simpa [scan, writeBlock] using h2⟩
      cases j with
      | zero => simpa using hx
      | succ j =>
        have := hr j (by omega)
        rw [readBuf_writeBuf_of_ne _ _ (by omega)] at this
        simpa [Nat.add_comm, Nat.add_left_comm] using this

end Sys2Proof.Machine
end

