-- ==== Sys2Proof/Laws/Commands.lean ====
section
/-! SUPPORT. Everything each shared command template and each sample loop can answer, said once; later proofs cite
these and do not unfold the templates (40_sequencing R150, 60_exceptions R285). -/

namespace Sys2Proof.Machine

theorem failCommand_next {i : Instr} {c : ErrCode} {s t : State} (h : failCommand i c s = .next t) :
    t = complete (raiseError c (encode i) s) := by
  simpa [failCommand, eq_comm] using h

/-- INIT_k answers SEQUENCE with an invocation open, and else opens one. -/
theorem initCommand_next {i : Instr} {k : Kernel} {s t : State} (h : initCommand i k s = .next t) :
    (s.active ≠ .none ∧ t = complete (raiseError .sequence (encode i) s)) ∨
    (s.active = .none ∧ t = complete (openInvocation k s)) := by
  unfold initCommand at h
  split at h
  · rename_i ha
    exact .inl ⟨ha, failCommand_next h⟩
  · rename_i ha
    refine .inr ⟨not_not.1 ha, ?_⟩
    simpa [eq_comm] using h

/-- RUN_k answers SEQUENCE unless k is active, and else what its loop gives, or the record of where it stopped. -/
theorem runCommand_next {i : Instr} {k : Kernel} {loop : State → Except Nat State} {s t : State}
    (h : runCommand i k loop s = .next t) :
    (s.active ≠ k ∧ t = complete (raiseError .sequence (encode i) s)) ∨
    (s.active = k ∧ ∃ u, loop s = .ok u ∧ t = complete (countBlock u)) ∨
    (s.active = k ∧ ∃ n, loop s = .error n ∧ t = complete (recordFault (.unwrittenRead n) s)) := by
  unfold runCommand at h
  split at h
  · rename_i ha
    exact .inl ⟨ha, failCommand_next h⟩
  · rename_i ha
    split at h
    · rename_i n hn
      exact .inr (.inr ⟨not_not.1 ha, n, hn, (Host.Outcome.next.inj h).symm⟩)
    · rename_i u hu
      exact .inr (.inl ⟨not_not.1 ha, u, hu, (Host.Outcome.next.inj h).symm⟩)

theorem runCommand_of_ok {i : Instr} {k : Kernel} {loop : State → Except Nat State} {s u : State}
    (ha : s.active = k) (h : loop s = .ok u) : runCommand i k loop s = .next (complete (countBlock u)) := by
  simp [runCommand, ha, h]

theorem runCommand_of_error {i : Instr} {k : Kernel} {loop : State → Except Nat State} {s : State} {n : Nat}
    (ha : s.active = k) (h : loop s = .error n) :
    runCommand i k loop s = .next (complete (recordFault (.unwrittenRead n) s)) := by
  simp [runCommand, ha, h]

/-! ## The sample loops over a written block -/

theorem intLoop_block {s : State} {xs : List Word} (hl : xs.length = s.blockSize) (hm : holdsBlock s.mem xs) :
    intLoop s = .ok { s with intY1 := (scan intSample s.intY1 xs).1,
                             mem := writeBlock s.mem 0 (scan intSample s.intY1 xs).2 } := by
  rw [intLoop, ← hl, sweep_block _ _ _ _ hm]
  rfl

theorem bqLoop_block {s : State} {xs : List Word} (hl : xs.length = s.blockSize) (hm : holdsBlock s.mem xs) :
    bqLoop s = .ok { s with bqHist := (scan (bqSample s.bqCoeffs) s.bqHist xs).1,
                            mem := writeBlock s.mem 0 (scan (bqSample s.bqCoeffs) s.bqHist xs).2 } := by
  rw [bqLoop, ← hl, sweep_block _ _ _ _ hm]
  rfl

theorem combLoop_block {s : State} {xs : List Word} (hl : xs.length = s.blockSize) (hm : holdsBlock s.mem xs) :
    combLoop s =
      .ok { s with combHist := (scan (combSample s.combVar s.combG1 s.combG2) s.combHist xs).1,
                   mem := writeBlock s.mem 0 (scan (combSample s.combVar s.combG1 s.combG2) s.combHist xs).2 } := by
  rw [combLoop, ← hl, sweep_block _ _ _ _ hm]
  rfl

theorem spLoop_block {s : State} {y0 : Word} {xs : List Word} (hy : spSeed s = some y0)
    (hl : xs.length = s.blockSize) (hm : holdsBlock s.mem xs) :
    spLoop s = .ok { s with spY1 := (scan (spSample s.spAlpha) y0 xs).1, spSeeded := true,
                            mem := writeBlock s.mem 0 (scan (spSample s.spAlpha) y0 xs).2 } := by
  simp only [spLoop, hy]
  rw [← hl, sweep_block _ _ _ _ hm]
  rfl

/-! ## What a loop that ends has done -/

theorem sweep_map_ok {H : Type} {f : H → Word → H × Word} {n : Nat} {h : H} {m : Memory}
    {g : H × Memory → State} {u : State} (hs : (sweep f n 0 h m).map g = .ok u) :
    ∃ xs : List Word, xs.length = n ∧ holdsBlock m xs ∧
      u = g ((scan f h xs).1, writeBlock m 0 (scan f h xs).2) := by
  cases hw : sweep f n 0 h m with
  | error k => simp [hw, Except.map] at hs
  | ok r =>
    obtain ⟨xs, hl, hr, h1, h2⟩ := sweep_ok f (i := 0) (h' := r.1) (m' := r.2) hw
    refine ⟨xs, hl, fun j hj => by simpa using hr j (hl ▸ hj), ?_⟩
    rw [← h1, ← h2]
    simpa [hw, Except.map, eq_comm] using hs

theorem intLoop_ok {s u : State} (h : intLoop s = .ok u) :
    ∃ xs : List Word, xs.length = s.blockSize ∧ holdsBlock s.mem xs ∧
      u = { s with intY1 := (scan intSample s.intY1 xs).1,
                   mem := writeBlock s.mem 0 (scan intSample s.intY1 xs).2 } :=
  sweep_map_ok h

theorem bqLoop_ok {s u : State} (h : bqLoop s = .ok u) :
    ∃ xs : List Word, xs.length = s.blockSize ∧ holdsBlock s.mem xs ∧
      u = { s with bqHist := (scan (bqSample s.bqCoeffs) s.bqHist xs).1,
                   mem := writeBlock s.mem 0 (scan (bqSample s.bqCoeffs) s.bqHist xs).2 } :=
  sweep_map_ok h

theorem combLoop_ok {s u : State} (h : combLoop s = .ok u) :
    ∃ xs : List Word, xs.length = s.blockSize ∧ holdsBlock s.mem xs ∧
      u = { s with combHist := (scan (combSample s.combVar s.combG1 s.combG2) s.combHist xs).1,
                   mem := writeBlock s.mem 0 (scan (combSample s.combVar s.combG1 s.combG2) s.combHist xs).2 } :=
  sweep_map_ok h

theorem spLoop_ok {s u : State} (h : spLoop s = .ok u) :
    ∃ (y0 : Word) (xs : List Word), spSeed s = some y0 ∧ xs.length = s.blockSize ∧ holdsBlock s.mem xs ∧
      u = { s with spY1 := (scan (spSample s.spAlpha) y0 xs).1, spSeeded := true,
                   mem := writeBlock s.mem 0 (scan (spSample s.spAlpha) y0 xs).2 } := by
  unfold spLoop at h
  split at h
  · cases h
  · rename_i y0 hy
    obtain ⟨xs, hl, hm, hu⟩ := sweep_map_ok h
    exact ⟨y0, xs, hy, hl, hm, hu⟩

/-! ## What a loop that stops has met -/

/-- `n` is the first unwritten word of the buffer. -/
def FirstUnwritten (m : Memory) (n : Nat) : Prop :=
  readBuf m n = none ∧ ∀ j, j < n → (readBuf m j).isSome

theorem sweep_map_error {H : Type} {f : H → Word → H × Word} {count k : Nat} {h : H} {m : Memory}
    {g : H × Memory → State} (hs : (sweep f count 0 h m).map g = .error k) :
    k < count ∧ FirstUnwritten m k := by
  cases hw : sweep f count 0 h m with
  | ok r => simp [hw, Except.map] at hs
  | error d =>
    obtain rfl : d = k := by simpa [hw, Except.map] using hs
    obtain ⟨e, he, hc, hu, hj⟩ := sweep_error f hw
    obtain rfl : d = e := by omega
    exact ⟨hc, hu, by simpa using hj⟩

theorem intLoop_error {s : State} {n : Nat} (h : intLoop s = .error n) :
    n < s.blockSize ∧ FirstUnwritten s.mem n :=
  sweep_map_error h

theorem bqLoop_error {s : State} {n : Nat} (h : bqLoop s = .error n) : n < s.blockSize ∧ FirstUnwritten s.mem n :=
  sweep_map_error h

theorem combLoop_error {s : State} {n : Nat} (h : combLoop s = .error n) :
    n < s.blockSize ∧ FirstUnwritten s.mem n :=
  sweep_map_error h

/-- The seed reads BUF[0] whatever the length of the block, which is at least 1 (00_scope R9). -/
theorem spLoop_error {s : State} {n : Nat} (h : spLoop s = .error n) :
    (n = 0 ∨ n < s.blockSize) ∧ FirstUnwritten s.mem n := by
  unfold spLoop at h
  split at h
  · rename_i hy
    obtain rfl : 0 = n := Except.error.inj h
    refine ⟨.inl rfl, ?_, fun j hj => absurd hj (Nat.not_lt_zero j)⟩
    unfold spSeed at hy
    split at hy
    · cases hy
    · exact hy
  · exact (sweep_map_error h).imp .inr id

end Sys2Proof.Machine
end

