-- ==== Sys2Proof/Laws/Exec.lean ====
section
/-! SUPPORT. Everything a command can do, said once: `Answers i s t` lists the next states that exec can give, and
`exec_answers` says that it gives no other. Invariants and frames follow by `cases` on it. -/

namespace Sys2Proof.Machine

/-- The commands that open kernel k's invocation. -/
def Opens : Instr → Kernel → Prop
  | .initInt, .int => True
  | .initSp, .sp => True
  | .initBq, .bq => True
  | .initComb, .comb => True
  | _, _ => False

/-- The commands that run a block through kernel k. -/
def Runs : Instr → Kernel → Prop
  | .runInt, .int => True
  | .runSp, .sp => True
  | .runBq, .bq => True
  | .runComb, .comb => True
  | _, _ => False

/-- The next states of a command, case by case (40_sequencing R150 to R155, and each kernel's rules). -/
inductive Answers : Instr → State → State → Prop where
  | failed {i : Instr} {s : State} (c : ErrCode) (code : c ≠ .none) :
      Answers i s (complete (raiseError c (encode i) s))
  | nop {s : State} : Answers .nop s (complete s)
  | opened {i : Instr} {s : State} (k : Kernel) (idle : s.active = .none) (opens : Opens i k) :
      Answers i s (complete (openInvocation k s))
  | ranInt {s : State} (xs : List Word) (active : s.active = .int) (len : xs.length = s.blockSize)
      (holds : holdsBlock s.mem xs) :
      Answers .runInt s (complete (countBlock
        { s with intY1 := (scan intSample s.intY1 xs).1, mem := writeBlock s.mem 0 (scan intSample s.intY1 xs).2 }))
  | ranSp {s : State} (y0 : Word) (xs : List Word) (active : s.active = .sp) (seed : spSeed s = some y0)
      (len : xs.length = s.blockSize) (holds : holdsBlock s.mem xs) :
      Answers .runSp s (complete (countBlock
        { s with spY1 := (scan (spSample s.spAlpha) y0 xs).1, spSeeded := true,
                 mem := writeBlock s.mem 0 (scan (spSample s.spAlpha) y0 xs).2 }))
  | ranBq {s : State} (xs : List Word) (active : s.active = .bq) (len : xs.length = s.blockSize)
      (holds : holdsBlock s.mem xs) :
      Answers .runBq s (complete (countBlock
        { s with bqHist := (scan (bqSample s.bqCoeffs) s.bqHist xs).1,
                 mem := writeBlock s.mem 0 (scan (bqSample s.bqCoeffs) s.bqHist xs).2 }))
  | ranComb {s : State} (xs : List Word) (active : s.active = .comb) (len : xs.length = s.blockSize)
      (holds : holdsBlock s.mem xs) :
      Answers .runComb s (complete (countBlock
        { s with combHist := (scan (combSample s.combVar s.combG1 s.combG2) s.combHist xs).1,
                 mem := writeBlock s.mem 0 (scan (combSample s.combVar s.combG1 s.combG2) s.combHist xs).2 }))
  | ranUnwritten {i : Instr} {s : State} (k : Kernel) (n : Nat) (runs : Runs i k) (active : s.active = k)
      (inside : n = 0 ∨ n < s.blockSize) (first : FirstUnwritten s.mem n) :
      Answers i s (complete (recordFault (.unwrittenRead n) s))
  | abortedIdle {s : State} (idle : s.active = .none) : Answers .abort s (complete s)
  | aborted {s : State} (opened : s.active ≠ .none) : Answers .abort s (complete (closeInvocation s))
  | finished {s : State} (opened : s.active ≠ .none) (filtered : s.nonempty = true) :
      Answers .finish s (complete (closeInvocation s))
  | finishedEmpty {s : State} (opened : s.active ≠ .none) (empty : s.nonempty = false) :
      Answers .finish s (complete (raiseError .invalidInput (encode .finish) (closeInvocation s)))
  | generatedSp {s : State} (unlocked : s.active ≠ .sp) (valid : spValid s.spW = true) :
      Answers .genSp s (complete { s with spAlpha := Config.genSP s.spW })
  | generatedBq {s : State} (unlocked : s.active ≠ .bq) (valid : bqValid s.fs s.fc s.q = true) :
      Answers .genBq s (complete { s with bqCoeffs := Config.genBQ s.fs s.fc s.q })
  | softReset {s : State} : Answers .srst s (resetRegisters s)

theorem initCommand_answers {i : Instr} {k : Kernel} {s t : State} (ho : Opens i k)
    (h : initCommand i k s = .next t) : Answers i s t := by
  rcases initCommand_next h with ⟨_, rfl⟩ | ⟨ha, rfl⟩
  · exact .failed _ (by decide)
  · exact .opened k ha ho

theorem failCommand_answers {i : Instr} {c : ErrCode} {s t : State} (hc : c ≠ .none)
    (h : failCommand i c s = .next t) : Answers i s t := by
  rw [failCommand_next h]
  exact .failed c hc

/-- Every next state of a command is one of those listed. -/
theorem exec_answers {i : Instr} {s t : State} (h : exec i s = .next t) : Answers i s t := by
  cases i with
  | nop =>
    obtain rfl : t = complete s := (Host.Outcome.next.inj h).symm
    exact .nop
  | initInt => exact initCommand_answers (k := .int) trivial h
  | initSp => exact initCommand_answers (k := .sp) trivial h
  | initBq => exact initCommand_answers (k := .bq) trivial h
  | initComb => exact initCommand_answers (k := .comb) trivial h
  | runInt =>
    rcases runCommand_next h with ⟨_, rfl⟩ | ⟨ha, u, hu, rfl⟩ | ⟨ha, n, hn, rfl⟩
    · exact .failed _ (by decide)
    · obtain ⟨xs, hl, hm, rfl⟩ := intLoop_ok hu
      exact .ranInt xs ha hl hm
    · exact .ranUnwritten .int n trivial ha (.inr (intLoop_error hn).1) (intLoop_error hn).2
  | runSp =>
    rcases runCommand_next h with ⟨_, rfl⟩ | ⟨ha, u, hu, rfl⟩ | ⟨ha, n, hn, rfl⟩
    · exact .failed _ (by decide)
    · obtain ⟨y0, xs, hy, hl, hm, rfl⟩ := spLoop_ok hu
      exact .ranSp y0 xs ha hy hl hm
    · exact .ranUnwritten .sp n trivial ha (spLoop_error hn).1 (spLoop_error hn).2
  | runBq =>
    rcases runCommand_next h with ⟨_, rfl⟩ | ⟨ha, u, hu, rfl⟩ | ⟨ha, n, hn, rfl⟩
    · exact .failed _ (by decide)
    · obtain ⟨xs, hl, hm, rfl⟩ := bqLoop_ok hu
      exact .ranBq xs ha hl hm
    · exact .ranUnwritten .bq n trivial ha (.inr (bqLoop_error hn).1) (bqLoop_error hn).2
  | runComb =>
    rcases runCommand_next h with ⟨_, rfl⟩ | ⟨ha, u, hu, rfl⟩ | ⟨ha, n, hn, rfl⟩
    · exact .failed _ (by decide)
    · obtain ⟨xs, hl, hm, rfl⟩ := combLoop_ok hu
      exact .ranComb xs ha hl hm
    · exact .ranUnwritten .comb n trivial ha (.inr (combLoop_error hn).1) (combLoop_error hn).2
  | finish =>
    simp only [exec, execFinish] at h
    split at h
    · exact failCommand_answers (by decide) h
    · rename_i ho
      split at h
      · rename_i hn
        obtain rfl := Host.Outcome.next.inj h
        exact .finished ho hn
      · rename_i hn
        rw [failCommand_next h]
        exact .finishedEmpty ho (by simpa using hn)
  | abort =>
    simp only [exec, execAbort] at h
    split at h
    · rename_i hi
      obtain rfl := Host.Outcome.next.inj h
      exact .abortedIdle hi
    · rename_i ho
      obtain rfl := Host.Outcome.next.inj h
      exact .aborted ho
  | genSp =>
    simp only [exec, execGenSp] at h
    split at h
    · exact failCommand_answers (by decide) h
    · rename_i hu
      split at h
      · rename_i hv
        obtain rfl := Host.Outcome.next.inj h
        exact .generatedSp hu hv
      · exact failCommand_answers (by decide) h
  | genBq =>
    simp only [exec, execGenBq] at h
    split at h
    · exact failCommand_answers (by decide) h
    · rename_i hu
      split at h
      · rename_i hv
        obtain rfl := Host.Outcome.next.inj h
        exact .generatedBq hu hv
      · exact failCommand_answers (by decide) h
  | srst =>
    obtain rfl : t = resetRegisters s := (Host.Outcome.next.inj h).symm
    exact .softReset

/-- Every command answers a next state in every state: none of them stops the machine. -/
theorem exec_total (i : Instr) (s : State) : ∃ t, exec i s = .next t := by
  cases i <;>
    simp only [exec, execNop, execInitInt, execInitSp, execInitBq, execInitComb, execRunInt, execRunSp, execRunBq,
      execRunComb, execFinish, execAbort, execGenSp, execGenBq, execSrst, initCommand, runCommand, failCommand] <;>
    (repeat' split) <;> exact ⟨_, rfl⟩

end Sys2Proof.Machine
end

