-- ==== Sys2Proof/Laws/Float32.lean ====
section
/-! SUPPORT. Laws of the binary32 primitives: the fields of a packed pattern, and that nanResult is a NaN
(00_scope R9, R12, R13). -/

namespace Sys2Proof.Machine

theorem packSign_toNat (neg : Bool) {mag : Nat} (h : mag < 2 ^ 31) :
    (packSign neg mag).toNat = (if neg then 2 ^ 31 else 0) + mag := by
  unfold packSign
  rw [BitVec.toNat_ofNat, Nat.mod_eq_of_lt]
  split <;> omega

theorem expField_packSign (neg : Bool) {mag : Nat} (h : mag < 2 ^ 31) :
    expField (packSign neg mag) = mag / 2 ^ 23 := by
  simp only [expField, BitVec.extractLsb'_toNat, packSign_toNat neg h, Nat.shiftRight_eq_div_pow]
  split <;> omega

theorem fracField_packSign (neg : Bool) {mag : Nat} (h : mag < 2 ^ 31) :
    fracField (packSign neg mag) = mag % 2 ^ 23 := by
  simp only [fracField, BitVec.extractLsb'_toNat, packSign_toNat neg h, Nat.shiftRight_eq_div_pow]
  split <;> omega

theorem signBit_packSign (neg : Bool) {mag : Nat} (h : mag < 2 ^ 31) : signBit (packSign neg mag) = neg := by
  unfold signBit BitVec.getLsbD
  rw [packSign_toNat neg h, Nat.testBit_eq_decide_div_mod_eq]
  cases neg
  · simp only [Bool.false_eq_true, if_false, Nat.zero_add]
    rw [Nat.div_eq_of_lt h]
    decide
  · simp only [if_true]
    rw [show (2 ^ 31 + mag) / 2 ^ 31 = 1 by omega]
    decide

/-- nanResult is a NaN, whatever its sign and fraction (00_scope R9). -/
theorem isNaN_nanResult (op : FloatOp) (a b : Word) : isNaN (nanResult op a b) = true := by
  have hp := (Config.nanFractionLessOne op a b).isLt
  have hm : 0x7F800000 + ((Config.nanFractionLessOne op a b).val + 1) < 2 ^ 31 := by omega
  unfold isNaN nanResult
  rw [expField_packSign _ hm, fracField_packSign _ hm]
  simp only [Bool.and_eq_true, beq_iff_eq, bne_iff_ne, ne_eq]
  constructor <;> omega

/-- A rounded magnitude is at most the pattern of infinity. -/
theorem roundMag_le (m k : Nat) : roundMag m k ≤ 0x7F800000 :=
  min_le_right _ _

/-! ## The sign change -/

theorem negate_toNat (v : Word) : (negate v).toNat = v.toNat ^^^ 2 ^ 31 := by
  simp [negate]

theorem signBit_negate (v : Word) : signBit (negate v) = !signBit v := by
  unfold signBit negate
  rw [BitVec.getLsbD_xor]
  cases v.getLsbD 31 <;> decide

theorem expField_negate (v : Word) : expField (negate v) = expField v := by
  unfold expField negate
  congr 1
  apply BitVec.eq_of_getLsbD_eq
  intro i hi
  simp only [BitVec.getLsbD_extractLsb', BitVec.getLsbD_xor]
  have : (0x80000000#32).getLsbD (23 + i) = false := by
    have : ∀ j : Fin 8, (0x80000000#32).getLsbD (23 + j.val) = false := by decide
    exact this ⟨i, hi⟩
  rw [this, Bool.xor_false]

theorem fracField_negate (v : Word) : fracField (negate v) = fracField v := by
  unfold fracField negate
  congr 1
  apply BitVec.eq_of_getLsbD_eq
  intro i hi
  simp only [BitVec.getLsbD_extractLsb', BitVec.getLsbD_xor]
  have : (0x80000000#32).getLsbD (0 + i) = false := by
    have : ∀ j : Fin 23, (0x80000000#32).getLsbD (0 + j.val) = false := by decide
    exact this ⟨i, hi⟩
  rw [this, Bool.xor_false]

theorem isNaN_negate (v : Word) : isNaN (negate v) = isNaN v := by
  unfold isNaN
  rw [expField_negate, fracField_negate]

theorem isInf_negate (v : Word) : isInf (negate v) = isInf v := by
  unfold isInf
  rw [expField_negate, fracField_negate]

theorem isFinite_negate (v : Word) : isFinite (negate v) = isFinite v := by
  unfold isFinite
  rw [expField_negate]

theorem magUnits_negate (v : Word) : magUnits (negate v) = magUnits v := by
  unfold magUnits
  rw [expField_negate, fracField_negate]

/-- real(-v) = -real(v). -/
theorem units_negate (v : Word) : units (negate v) = -units v := by
  unfold units
  rw [signBit_negate, magUnits_negate]
  cases signBit v <;> simp

/-! ## Rounding -/

theorem roundMag_zero (k : Nat) : roundMag 0 k = 0 := by
  simp [roundMag, dropBits, roundShift]

end Sys2Proof.Machine
end

