-- ==== Sys2Proof/Laws/PerInstr.lean ====
section
/-! SUPPORT. Statements about every command as syntax, one lemma per constructor. -/

namespace Sys2Proof.Laws.Encoding

/-- The command's word decodes to it, is well formed, and has its OPC in bits [31:24] with RSVD zero
(30_encoding R120, R123, R124). -/
def Statement (i : Instr) : Prop :=
  decode (encode i) = .command i ∧ commandWordWf (encode i) = true ∧
    encode i = opcField (encode i) ++ 0#24

theorem nop : Statement .nop := by unfold Statement; decide
theorem initInt : Statement .initInt := by unfold Statement; decide
theorem initSp : Statement .initSp := by unfold Statement; decide
theorem initBq : Statement .initBq := by unfold Statement; decide
theorem initComb : Statement .initComb := by unfold Statement; decide
theorem runInt : Statement .runInt := by unfold Statement; decide
theorem runSp : Statement .runSp := by unfold Statement; decide
theorem runBq : Statement .runBq := by unfold Statement; decide
theorem runComb : Statement .runComb := by unfold Statement; decide
theorem finish : Statement .finish := by unfold Statement; decide
theorem abort : Statement .abort := by unfold Statement; decide
theorem genSp : Statement .genSp := by unfold Statement; decide
theorem genBq : Statement .genBq := by unfold Statement; decide
theorem srst : Statement .srst := by unfold Statement; decide

end Sys2Proof.Laws.Encoding
end

