-- ==== Sys2Proof/Laws/Registers.lean ====
section
/-! SUPPORT. The address map and the register file: every register is found at its offset, the buffer at its own, and a
stored word is read back (10_state R31, 20_memory R80 to R82). -/

namespace Sys2Proof.Machine

theorem regAt_regOffset (r : Reg) : regAt (regOffset r) = some r := by
  cases r <;> rfl

theorem regAt_offset {off : Nat} {r : Reg} (h : regAt off = some r) : regOffset r = off := by
  have := List.find?_some h
  simpa using this

theorem regOffset_le (r : Reg) : regOffset r ≤ 0x084 := by
  cases r <;> decide

theorem regOffset_aligned (r : Reg) : regOffset r % 4 = 0 := by
  cases r <;> decide

theorem regOffset_injective {r r' : Reg} (h : regOffset r = regOffset r') : r = r' := by
  have := regAt_regOffset r
  rw [h, regAt_regOffset] at this
  simpa [eq_comm] using this

theorem regAt_of_gt {off : Nat} (h : 0x084 < off) : regAt off = none := by
  cases hr : regAt off with
  | none => rfl
  | some r =>
    have h1 := regAt_offset hr
    have h2 := regOffset_le r
    omega

theorem targetOf_reg (n : Nat) (r : Reg) : targetOf n (regOffset r) = .reg r := by
  simp [targetOf, regAt_regOffset]

theorem targetOf_of_ge {n off : Nat} (h : 0x10000 ≤ off) (h' : off < 0x10000 + 4 * n) :
    targetOf n off = .buffer ((off - 0x10000) / 4) := by
  unfold targetOf
  rw [regAt_of_gt (by omega)]
  show (if _ then _ else _) = _
  rw [if_neg (by omega), if_pos ⟨h, h'⟩]

theorem targetOf_buffer {n i : Nat} (h : i < n) : targetOf n (bufAddr i) = .buffer i := by
  rw [targetOf_of_ge (by unfold bufAddr bufBase; omega) (by unfold bufAddr bufBase; omega)]
  unfold bufAddr bufBase
  congr 1
  omega

/-- The only offsets that lead to buffer word i. -/
theorem targetOf_eq_buffer {n off i : Nat} (h : targetOf n off = .buffer i) :
    0x10000 ≤ off ∧ off < 0x10000 + 4 * n ∧ i = (off - 0x10000) / 4 := by
  unfold targetOf at h
  split at h
  · cases h
  · split at h
    · cases h
    · split at h
      · rename_i h3
        simp only [Target.buffer.injEq] at h
        exact ⟨h3.1, h3.2, h.symm⟩
      · cases h

/-- The bus offset of a register, as 17 bits. -/
theorem toNat_regOffset (r : Reg) : (BitVec.ofNat 17 (regOffset r)).toNat = regOffset r := by
  cases r <;> rfl

end Sys2Proof.Machine
end

