-- ==== Sys2Proof/Laws/Step.lean ====
section
/-! SUPPORT. Everything a step, the core's turn and a bus access can answer, said once (00_scope R8, 40_sequencing R150,
20_memory R82 to R86). -/

namespace Sys2Proof.Machine

/-! ## A written block -/

theorem blockWritten_of_holds {s : State} {xs : List Word} (hl : xs.length = s.blockSize) (hm : holdsBlock s.mem xs) :
    BlockWritten s := fun i hi => by
  rw [hm i (hl ▸ hi)]
  simp [hl, hi]

theorem not_blockWritten_of_firstUnwritten {s : State} {n : Nat} (hn : n < s.blockSize)
    (h : FirstUnwritten s.mem n) : ¬ BlockWritten s := fun hw => by
  have := hw n hn
  rw [h.1] at this
  cases this

/-! ## The same invocation -/

theorem sameKernel_refl (s : State) : SameKernel s s :=
  ⟨rfl, rfl, fun _ => rfl, fun _ => ⟨rfl, rfl, rfl⟩, fun _ => ⟨rfl, rfl⟩, fun _ => ⟨rfl, rfl, rfl, rfl⟩⟩

theorem sameKernel_trans {s u v : State} (h : SameKernel s u) (h' : SameKernel u v) : SameKernel s v := by
  obtain ⟨ha, hb, hi, hs, hq, hc⟩ := h
  obtain ⟨ha', hb', hi', hs', hq', hc'⟩ := h'
  rw [ha] at hi' hs' hq' hc'
  exact ⟨ha'.trans ha, hb'.trans hb, fun h => (hi' h).trans (hi h),
    fun h => ⟨(hs' h).1.trans (hs h).1, (hs' h).2.1.trans (hs h).2.1, (hs' h).2.2.trans (hs h).2.2⟩,
    fun h => ⟨(hq' h).1.trans (hq h).1, (hq' h).2.trans (hq h).2⟩,
    fun h => ⟨(hc' h).1.trans (hc h).1, (hc' h).2.1.trans (hc h).2.1, (hc' h).2.2.1.trans (hc h).2.2.1,
      (hc' h).2.2.2.trans (hc h).2.2.2⟩⟩

/-- An invocation whose first blocks come after something that keeps it. -/
theorem filtersBlocks_of_sameKernel {i : Instr} {s u t : State} {bs os : List (List Word)} (h : SameKernel s u)
    (hf : FiltersBlocks i u bs os t) (hne : bs ≠ []) : FiltersBlocks i s bs os t := by
  cases hf with
  | nil => exact absurd rfl hne
  | cons same len input run outLen output rest =>
    exact .cons (sameKernel_trans h same) len input run outLen output rest

/-! ## The step -/

/-- A step with a bus access next is that access. -/
theorem step_access {s : State} {a : Access} {rest : List Event} (h : s.agenda = .access a :: rest) :
    step s = busAccess a { s with agenda := rest } := by
  unfold step advance
  rw [h]
  rfl

theorem step_next {s t : State} (h : step s = .next t) :
    (s.agenda = [] ∧ coreStep s = .next t) ∨
    ∃ e rest, s.agenda = e :: rest ∧ perform e { s with agenda := rest } = .next t := by
  unfold step advance at h
  split at h
  · rename_i ha
    exact .inl ⟨ha, h⟩
  · rename_i e rest ha
    exact .inr ⟨e, rest, ha, h⟩

theorem coreStep_next {s t : State} (h : coreStep s = .next t) :
    (s.rstN = false ∧ t = pinReset s) ∨
    (s.rstN = true ∧ s.cmdLatch = none ∧ t = s) ∨
    ∃ w, s.rstN = true ∧ s.cmdLatch = some w ∧ performWord w s = .next t := by
  unfold coreStep at h
  cases hr : s.rstN with
  | false => simp [hr] at h; exact .inl ⟨rfl, h.symm⟩
  | true =>
    simp only [hr, Bool.not_true, Bool.false_eq_true, if_false] at h
    split at h
    · rename_i hw
      exact .inr (.inl ⟨rfl, hw, by simpa [eq_comm] using h⟩)
    · rename_i w hw
      exact .inr (.inr ⟨w, rfl, hw, h⟩)

theorem performWord_next {w : Word} {s t : State} (h : performWord w s = .next t) :
    (∃ r, decode w = .rejected r ∧ t = complete (raiseError .illegalCommand w s)) ∨
    ∃ i, decode w = .command i ∧ exec i s = .next t := by
  unfold performWord at h
  split at h
  · rename_i r hd
    exact .inl ⟨r, hd, by simpa [eq_comm] using h⟩
  · rename_i i hd
    exact .inr ⟨i, hd, h⟩

theorem busAccess_next {a : Access} {s t : State} (h : busAccess a s = .next t) :
    s.rstN = true ∧
    ((accessBad s.blockSize a = true ∧ t = respond .error (recordFault (.busError a.off.toNat) s)) ∨
     (accessBad s.blockSize a = false ∧
       ((∃ off n, a = .read off n ∧ t = readAccess off s) ∨
        ∃ off n v, a = .write off n v ∧ t = writeAccess off v s))) := by
  unfold busAccess at h
  cases hr : s.rstN with
  | false => simp [hr] at h
  | true =>
    simp only [hr, Bool.not_true, Bool.false_eq_true, if_false] at h
    refine ⟨rfl, ?_⟩
    cases hb : accessBad s.blockSize a with
    | true => simp [hb] at h; exact .inl ⟨rfl, h.symm⟩
    | false =>
      simp only [hb, Bool.false_eq_true, if_false] at h
      refine .inr ⟨rfl, ?_⟩
      cases a with
      | read off n => exact .inl ⟨off, n, rfl, by simpa [eq_comm] using h⟩
      | write off n v => exact .inr ⟨off, n, v, rfl, by simpa [eq_comm] using h⟩

/-- A read leaves everything but the bus port's answer, the fault records and the draws. -/
theorem readAccess_eq (off : BitVec 17) (s : State) :
    ∃ r fs d, readAccess off s = { s with resp := r, faults := fs, draws := d } := by
  unfold readAccess readRegAccess readReservedAccess readBufferAccess
  split
  · split <;> exact ⟨_, _, _, rfl⟩
  · split <;> exact ⟨_, _, _, rfl⟩
  · split
    · exact ⟨_, _, _, rfl⟩
    · split <;> exact ⟨_, _, _, rfl⟩
  · exact ⟨s.resp, s.faults, s.draws, rfl⟩

/-- An aligned word access to a mapped offset is not bad. -/
theorem accessBad_read_of_mapped {n : Nat} {off : BitVec 17} (h : off.toNat % 4 = 0)
    (hm : targetOf n off.toNat ≠ .unmapped) : accessBad n (.read off 4) = false := by
  simp [accessBad, Access.size, Access.off, h, hm]

theorem accessBad_write_of_mapped {n : Nat} {off : BitVec 17} (v : Word) (h : off.toNat % 4 = 0)
    (hm : targetOf n off.toNat ≠ .unmapped) : accessBad n (.write off 4 v) = false := by
  simp [accessBad, Access.size, Access.off, h, hm]

theorem busAccess_read_of_mapped {s : State} {off : BitVec 17} (hr : s.rstN = true) (h : off.toNat % 4 = 0)
    (hm : targetOf s.blockSize off.toNat ≠ .unmapped) :
    busAccess (.read off 4) s = .next (readAccess off s) := by
  simp [busAccess, hr, accessBad_read_of_mapped h hm]

theorem busAccess_write_of_mapped {s : State} {off : BitVec 17} (v : Word) (hr : s.rstN = true)
    (h : off.toNat % 4 = 0) (hm : targetOf s.blockSize off.toNat ≠ .unmapped) :
    busAccess (.write off 4 v) s = .next (writeAccess off v s) := by
  simp [busAccess, hr, accessBad_write_of_mapped v h hm]

/-- A read of a register, whole. -/
theorem busAccess_read_reg {s : State} (r : Reg) (hr : s.rstN = true) :
    busAccess (.read (BitVec.ofNat 17 (regOffset r)) 4) s = .next (readRegAccess r s) := by
  rw [busAccess_read_of_mapped hr (by rw [toNat_regOffset]; exact regOffset_aligned r)
    (by rw [toNat_regOffset, targetOf_reg]; simp)]
  unfold readAccess
  rw [toNat_regOffset, targetOf_reg]

/-- A write to a register, whole. -/
theorem busAccess_write_reg {s : State} (r : Reg) (v : Word) (hr : s.rstN = true) :
    busAccess (.write (BitVec.ofNat 17 (regOffset r)) 4 v) s =
      .next (respond .okay (if s.cmdLatch.isSome then writeBusy (BitVec.ofNat 17 (regOffset r)) v s
        else writeRegIdle (BitVec.ofNat 17 (regOffset r)) r v s)) := by
  rw [busAccess_write_of_mapped v hr (by rw [toNat_regOffset]; exact regOffset_aligned r)
    (by rw [toNat_regOffset, targetOf_reg]; simp)]
  unfold writeAccess writeIdle
  rw [toNat_regOffset, targetOf_reg]

theorem toNat_bufOffset {i : Nat} (h : i < 16384) : (BitVec.ofNat 17 (0x10000 + 4 * i)).toNat = bufAddr i := by
  rw [BitVec.toNat_ofNat, Nat.mod_eq_of_lt (by omega)]
  rfl

theorem bufAddr_aligned (i : Nat) : bufAddr i % 4 = 0 := by
  unfold bufAddr bufBase
  omega

/-- A read of buffer word i, whole. -/
theorem busAccess_read_buf {s : State} {i : Nat} (hr : s.rstN = true) (hi : i < s.blockSize)
    (hb : s.blockSize ≤ 16384) :
    busAccess (.read (BitVec.ofNat 17 (0x10000 + 4 * i)) 4) s = .next (readBufferAccess i s) := by
  have ho := toNat_bufOffset (i := i) (by omega)
  generalize BitVec.ofNat 17 (0x10000 + 4 * i) = off at ho ⊢
  rw [busAccess_read_of_mapped hr (by rw [ho]; exact bufAddr_aligned i) (by rw [ho, targetOf_buffer hi]; simp)]
  unfold readAccess
  rw [ho, targetOf_buffer hi]

/-- A write to buffer word i, whole. -/
theorem busAccess_write_buf {s : State} {i : Nat} (v : Word) (hr : s.rstN = true) (hi : i < s.blockSize)
    (hb : s.blockSize ≤ 16384) :
    busAccess (.write (BitVec.ofNat 17 (0x10000 + 4 * i)) 4 v) s =
      .next (respond .okay (if s.cmdLatch.isSome then writeBusy (BitVec.ofNat 17 (0x10000 + 4 * i)) v s
        else { s with mem := writeBuf s.mem i v })) := by
  have ho := toNat_bufOffset (i := i) (by omega)
  generalize BitVec.ofNat 17 (0x10000 + 4 * i) = off at ho ⊢
  rw [busAccess_write_of_mapped v hr (by rw [ho]; exact bufAddr_aligned i) (by rw [ho, targetOf_buffer hi]; simp)]
  unfold writeAccess writeIdle
  rw [ho, targetOf_buffer hi]

theorem targetOf_reserved (n : Nat) {k : Nat} (h : k < 30) : targetOf n (0x088 + 4 * k) = .reserved := by
  unfold targetOf
  rw [regAt_of_gt (by omega)]
  show (if _ then _ else _) = _
  rw [if_pos (by omega)]

theorem toNat_reservedOffset {k : Nat} (h : k < 30) : (BitVec.ofNat 17 (0x088 + 4 * k)).toNat = 0x088 + 4 * k := by
  rw [BitVec.toNat_ofNat, Nat.mod_eq_of_lt (by omega)]

/-- A read of a reserved offset, whole. -/
theorem busAccess_read_reserved {s : State} {k : Nat} (hr : s.rstN = true) (h : k < 30) :
    busAccess (.read (BitVec.ofNat 17 (0x088 + 4 * k)) 4) s = .next (readReservedAccess s) := by
  have ho := toNat_reservedOffset h
  generalize BitVec.ofNat 17 (0x088 + 4 * k) = off at ho ⊢
  rw [busAccess_read_of_mapped hr (by omega) (by rw [ho, targetOf_reserved _ h]; simp)]
  unfold readAccess
  rw [ho, targetOf_reserved _ h]

/-- A write to a reserved offset, whole. -/
theorem busAccess_write_reserved {s : State} {k : Nat} (v : Word) (hr : s.rstN = true) (h : k < 30) :
    busAccess (.write (BitVec.ofNat 17 (0x088 + 4 * k)) 4 v) s =
      .next (respond .okay (if s.cmdLatch.isSome then writeBusy (BitVec.ofNat 17 (0x088 + 4 * k)) v s else s)) := by
  have ho := toNat_reservedOffset h
  generalize BitVec.ofNat 17 (0x088 + 4 * k) = off at ho ⊢
  rw [busAccess_write_of_mapped v hr (by omega) (by rw [ho, targetOf_reserved _ h]; simp)]
  unfold writeAccess writeIdle
  rw [ho, targetOf_reserved _ h]

end Sys2Proof.Machine
end

