-- ==== Sys2Proof/Tests/Slice0.lean ====
section
/-! SUPPORT. Tests whose expected results come from the spec (95_test_vectors and the rules named), and for every
statement that has hypotheses a witness that meets them. -/

open Sys2Proof Sys2Proof.Machine

namespace Sys2Proof.Tests

-- One theorem after another: checked all at once, these small theorems would hold a thread each.
set_option Elab.async false

/-! ## Helpers -/

/-- A machine of four words with kernel `k` open and a block in the buffer. -/
def small (k : Kernel) (xs : List Word) : State :=
  { State.reset with blockSize := 4, active := k, mem := writeBlock [] 0 xs }

/-- The outcome is a next state of which `p` holds. -/
def nextIs (r : Result) (p : State → Bool) : Bool :=
  match r with
  | .next t => p t
  | .fault _ => false
  | .refused _ => false

/-- The next state, or the given one. -/
def nextOr (r : Result) (s : State) : State :=
  match r with
  | .next t => t
  | .fault _ => s
  | .refused _ => s

/-- The four words of the buffer. -/
def block (s : State) : List (Option Word) :=
  [readBuf s.mem 0, readBuf s.mem 1, readBuf s.mem 2, readBuf s.mem 3]

/-- The machine after `n` steps. -/
def steps (n : Nat) (s : State) : State :=
  match n with
  | 0 => s
  | n + 1 => steps n (nextOr (step s) s)

/-- STATUS, ERRCODE and ERRINFO as the host reads them. -/
def errorView (s : State) : Word × Word × Word :=
  (readReg s .status, readReg s .errcode, readReg s .errinfo)

/-! ## Well-formedness -/

theorem test_wf_accepts_runInt : commandWordWf 0x20000000#32 = true := by decide

/-- V-SEQ-8: RUN_INT with RSVD other than 0. -/
theorem test_wf_refuses_rsvd : rsvdClear 0x20000001#32 = false ∧ commandWordWf 0x20000001#32 = false := by decide

/-- V-SEQ-7: OPC 0x01 is not in the table. -/
theorem test_wf_refuses_opcode : opcodeLegal 0x01000000#32 = false ∧ commandWordWf 0x01000000#32 = false := by decide

/-- V-BUS-4, V-BUS-5, V-BUS-3, V-BUS-6. -/
theorem test_wf_refuses_accesses :
    accessBad 4 (.read 0x00008#17 2) = true ∧ accessBad 4 (.read 0x00006#17 4) = true ∧
    accessBad 4 (.read 0x00100#17 4) = true ∧ accessBad 4 (.read 0x10010#17 4) = true ∧
    accessBad 4 (.read 0x1000C#17 4) = false := by decide

/-! ## Decoding: OPC in bits [31:24] as 30_encoding R123 tables it, RSVD zero -/

theorem test_decode_nop : decode (0b00000000#8 ++ 0#24) = .command .nop := by decide
theorem test_decode_initInt : decode (0b00010000#8 ++ 0#24) = .command .initInt := by decide
theorem test_decode_initSp : decode (0b00010001#8 ++ 0#24) = .command .initSp := by decide
theorem test_decode_initBq : decode (0b00010010#8 ++ 0#24) = .command .initBq := by decide
theorem test_decode_initComb : decode (0b00010011#8 ++ 0#24) = .command .initComb := by decide
theorem test_decode_runInt : decode (0b00100000#8 ++ 0#24) = .command .runInt := by decide
theorem test_decode_runSp : decode (0b00100001#8 ++ 0#24) = .command .runSp := by decide
theorem test_decode_runBq : decode (0b00100010#8 ++ 0#24) = .command .runBq := by decide
theorem test_decode_runComb : decode (0b00100011#8 ++ 0#24) = .command .runComb := by decide
theorem test_decode_finish : decode (0b00110000#8 ++ 0#24) = .command .finish := by decide
theorem test_decode_abort : decode (0b00110001#8 ++ 0#24) = .command .abort := by decide
theorem test_decode_genSp : decode (0b01000000#8 ++ 0#24) = .command .genSp := by decide
theorem test_decode_genBq : decode (0b01000001#8 ++ 0#24) = .command .genBq := by decide
theorem test_decode_srst : decode (0b11110000#8 ++ 0#24) = .command .srst := by decide

/-- 30_encoding R125: the gaps of the table and its upper end. -/
theorem test_decode_rejects :
    decode 0x14000000#32 = .rejected (.illegalOpcode 0x14#8) ∧
    decode 0xFF000000#32 = .rejected (.illegalOpcode 0xFF#8) ∧
    decode 0x30800000#32 = .rejected (.rsvdNonzero 0x30#8) := by decide

theorem test_decodeTableWord :
    decodeTableWord 32 0x23000000 = some .runComb ∧ decodeTableWord 32 0x23000001 = none ∧
    decodeTableWord 32 0x24000000 = none := by decide

/-- The placed word is what the very next step runs: FINISH from reset is SEQUENCE (V-SEQ-4). -/
theorem test_withFetchWord :
    nextIs (step (State.reset.withFetchWord 32 0x30000000)) (fun t =>
      errorView t == (0x00000006#32, 4#32, 0x30000000#32) && t.agenda == []) = true := by decide +kernel

/-! ## Commands -/

/-- V-SEQ-1. -/
theorem test_nop : nextIs (exec .nop State.reset) (fun t => errorView t == (2#32, 0#32, 0#32)) = true := by
  decide +kernel

/-- V-SEQ-2. -/
theorem test_initInt : nextIs (exec .initInt State.reset) (fun t => readReg t .status == 0x00000102#32) = true := by
  decide +kernel

/-- V-SEQ-6. -/
theorem test_initSp_sequence :
    nextIs (exec .initSp (small .int [])) (fun t => errorView t == (0x00000106#32, 4#32, 0x11000000#32)) = true := by
  decide +kernel

/-- 42_single_pole R190: the code of ACTIVE is 2, and BLKCNT becomes 0. -/
theorem test_initSp :
    nextIs (exec .initSp { State.reset with blkcnt := 7#32 }) (fun t =>
      readReg t .status == 0x00000202#32 && readReg t .blkcnt == 0#32) = true := by decide +kernel

/-- 43_biquad R210: the code of ACTIVE is 3, the coefficients stay. -/
theorem test_initBq :
    nextIs (exec .initBq State.reset) (fun t =>
      readReg t .status == 0x00000302#32 && readReg t .b0 == 0x3F800000#32) = true := by decide +kernel

/-- V-SEQ-16. -/
theorem test_initComb_sequence :
    nextIs (exec .initComb (small .comb [])) (fun t => errorView t == (0x00000406#32, 4#32, 0x13000000#32)) = true := by
  decide +kernel

/-- V-INT-4: 0.1, 0.2, 0.3 and 0.4 are rounded at each sum. -/
theorem test_runInt_rounds :
    nextIs (exec .runInt (small .int [0x3DCCCCCD#32, 0x3E4CCCCD#32, 0x3E99999A#32, 0x3ECCCCCD#32])) (fun t =>
      block t == [some 0x3DCCCCCD#32, some 0x3E99999A#32, some 0x3F19999A#32, some 0x3F800000#32] &&
      readReg t .intY1 == 0x3F800000#32 && readReg t .status == 0x00000112#32) = true := by decide +kernel

/-- V-INT-3: overflow to infinity, which stays, and is no error. -/
theorem test_runInt_overflows :
    nextIs (exec .runInt (small .int [0x7F61B1E6#32, 0x7F61B1E6#32, 0x3F800000#32, 0xBF800000#32])) (fun t =>
      block t == [some 0x7F61B1E6#32, some 0x7F800000#32, some 0x7F800000#32, some 0x7F800000#32] &&
      readReg t .intY1 == 0x7F800000#32 && !t.err) = true := by decide +kernel

/-- V-SP-1 and V-SP-6, first block: alpha 0.5, the seed is BUF[0]. -/
theorem test_runSp_seeds :
    nextIs (exec .runSp { small .sp [0x40000000#32, 0x40800000#32, 0#32, 0x3F800000#32] with
      spAlpha := 0x3F000000#32 }) (fun t =>
      block t == [some 0x40000000#32, some 0x40400000#32, some 0x3FC00000#32, some 0x3FA00000#32] &&
      readReg t .status == 0x00000232#32) = true := by decide +kernel

/-- V-SP-1, second block: no second seed. -/
theorem test_runSp_continues :
    nextIs (exec .runSp { small .sp [0x40400000#32, 0x40400000#32, 0x40400000#32, 0x40400000#32] with
      spAlpha := 0x3F000000#32, spY1 := 0x3FA00000#32, spSeeded := true }) (fun t =>
      block t == [some 0x40080000#32, some 0x40240000#32, some 0x40320000#32, some 0x40390000#32] &&
      readReg t .spY1 == 0x40390000#32) = true := by decide +kernel

/-- V-BQ-1, first block: the history order and the signs of a1 and a2. -/
theorem test_runBq :
    nextIs (exec .runBq { small .bq [0x3F800000#32, 0#32, 0#32, 0#32] with
      bqCoeffs := ⟨0x3F000000#32, 0x3E800000#32, 0x3E000000#32, 0xBF000000#32, 0x3E800000#32⟩ }) (fun t =>
      block t == [some 0x3F000000#32, some 0x3F000000#32, some 0x3E800000#32, some 0#32] &&
      t.bqHist == ⟨0#32, 0#32, 0#32, 0x3E800000#32⟩) = true := by decide +kernel

/-- V-BQ-4: an infinity makes NaNs of what follows, and is no error. Then R211's pseudocode over zeros with
B0, B1, B2 = -1.0 and A1, A2 = 1.0 (log entry 28). -/
theorem test_runBq_nan :
    nextIs (exec .runBq (small .bq [0x7F800000#32, 0x3F800000#32, 0x3F800000#32, 0x3F800000#32])) (fun t =>
      (readBuf t.mem 0 == some 0x7F800000#32) && !t.err) = true ∧
    bqOutput ⟨0xBF800000#32, 0xBF800000#32, 0xBF800000#32, 0x3F800000#32, 0x3F800000#32⟩ BqHist.zero 0#32 =
      0x80000000#32 := by decide +kernel

/-- V-COMB-0, first two blocks: both windows reach across the block boundary. -/
theorem test_runComb_full :
    nextIs (exec .runComb { nextOr (exec .runComb (small .comb [0x3F800000#32, 0#32, 0#32, 0#32])) State.reset with
      mem := writeBlock [] 0 [0#32, 0#32, 0#32, 0#32] }) (fun t =>
      block t == [some 0#32, some 0x3F172A5A#32, some 0x3C800000#32, some 0#32] &&
      readReg t .combY1 == 0#32 && readReg t .combY2 == 0x3C800000#32 && readReg t .combY3 == 0x3F172A5A#32) = true := by
  decide +kernel

/-- V-COMB-4: PASS changes no bit, NaN payload and -0.0 among them. Then V-COMB-5, and R232's pseudocode with the gain
negative (log entry 29). -/
theorem test_runComb_pass :
    nextIs (exec .runComb { small .comb [0x80000000#32, 0x7FC00001#32, 0x7F800000#32, 0x3F800000#32] with
      combVar := .pass }) (fun t =>
      block t == [some 0x80000000#32, some 0x7FC00001#32, some 0x7F800000#32, some 0x3F800000#32]) = true ∧
    combOutput .ffOnly 0#32 0x3F172A5A#32 CombHist.zero 0x80000000#32 = 0#32 ∧
    combOutput .ffOnly 0#32 0xBF172A5A#32 CombHist.zero 0x80000000#32 = 0x80000000#32 := by
  decide +kernel

/-- V-SEQ-3: the empty invocation is closed and then reported. -/
theorem test_finish_empty :
    nextIs (exec .finish (small .int [])) (fun t => errorView t == (6#32, 2#32, 0x30000000#32)) = true := by
  decide +kernel

/-- V-SEQ-15. -/
theorem test_finish :
    nextIs (exec .finish { small .int [] with nonempty := true, blkcnt := 2#32, intY1 := 0x3F800000#32 }) (fun t =>
      errorView t == (2#32, 0#32, 0#32) && readReg t .blkcnt == 2#32 && readReg t .intY1 == 0#32) = true := by
  decide +kernel

/-- V-SEQ-10. -/
theorem test_abort :
    nextIs (exec .abort { small .bq [] with bqHist := ⟨0#32, 0#32, 0x3F000000#32, 0#32⟩, blkcnt := 7#32 }) (fun t =>
      errorView t == (2#32, 0#32, 0#32) && readReg t .bqY1 == 0#32 && readReg t .blkcnt == 7#32) = true := by
  decide +kernel

/-- V-GEN-5: the pattern just above pi. V-GEN-4, V-GEN-6, V-GEN-7: the ends of the range. -/
theorem test_genSp_above_pi :
    nextIs (exec .genSp { State.reset with spW := 0x40490FDB#32 }) (fun t =>
      errorView t == (6#32, 1#32, 0x40000000#32) && readReg t .spAlpha == 0x3F800000#32) = true ∧
    spValid 0x40490FDA#32 = true ∧ spValid 0x00000001#32 = true ∧ spValid 0#32 = false ∧
    spValid 0x80000000#32 = false ∧ spValid 0xBF800000#32 = false ∧ spValid 0x7F800000#32 = false ∧
    spValid 0x7FC00000#32 = false := by decide +kernel

/-- V-GEN-17: the lock comes before the range. -/
theorem test_genSp_locked :
    nextIs (exec .genSp (small .sp [])) (fun t => errorView t == (0x00000206#32, 5#32, 0x40000000#32)) = true := by
  decide +kernel

/-- V-GEN-11 and V-GEN-12: at and just below half of FS. -/
theorem test_genBq_nyquist :
    nextIs (exec .genBq { State.reset with fs := 48000#32, fc := 0x46BB8000#32 }) (fun t =>
      errorView t == (6#32, 1#32, 0x41000000#32) && readReg t .b0 == 0x3F800000#32) = true ∧
    bqValid 48000#32 0x46BB7FFF#32 0x3F800000#32 = true := by decide +kernel

/-- V-GEN-13 to V-GEN-16, and V-GEN-19. -/
theorem test_genBq_refuses :
    bqValid 48000#32 0xC47A0000#32 0x3F800000#32 = false ∧ bqValid 0xFFFF4480#32 0x447A0000#32 0x3F800000#32 = false ∧
    bqValid 48000#32 0x447A0000#32 0x7F800000#32 = false ∧ bqValid 48000#32 0x447A0000#32 0x80000000#32 = false ∧
    nextIs (exec .genBq { small .bq [] with fs := 48000#32, fc := 0x46BB8000#32 }) (fun t =>
      errorView t == (0x00000306#32, 5#32, 0x41000000#32)) = true := by decide +kernel

/-- V-SEQ-13. -/
theorem test_srst :
    nextIs (exec .srst { small .sp [0x3F800000#32] with err := true, errCode := .sequence, combG1 := 0x3E800000#32 })
      (fun t => errorView t == (0#32, 0#32, 0#32) && readReg t .combG1 == 0x3E000000#32 &&
        readBuf t.mem 0 == some 0x3F800000#32) = true := by decide +kernel

/-! ## Errors, interrupt and bus -/

/-- V-SEQ-11. -/
theorem test_error_overflow :
    nextIs (exec .runInt { State.reset with err := true, errCode := .sequence, errInfo := 5#32 }) (fun t =>
      errorView t == (0x0000000E#32, 4#32, 5#32)) = true := by decide +kernel

/-- V-SEQ-12. -/
theorem test_error_acknowledged :
    nextIs (busAccess (.write 0x00008#17 4 4#32)
      { State.reset with err := true, errOvf := true, errCode := .sequence, errInfo := 5#32 }) (fun t =>
      errorView t == (8#32, 0#32, 0#32)) = true := by decide +kernel

/-- V-IRQ-1: `wr CTRL, 1`, then NOP, as agenda entries. -/
theorem test_irq :
    readReg (steps 3 { State.reset with agenda := [hostWr .ctrl 1#32, hostCmd 0#32, .coreTurn] }) .status =
      0x00010002#32 := by decide +kernel

/-- V-BUS-10, V-BUS-12. -/
theorem test_bus_busy :
    nextIs (busAccess (.write 0x00034#17 4 9#32) { State.reset with cmdLatch := some 0#32 }) (fun t =>
      errorView t == (5#32, 6#32, 0x34#32) && readReg t .b0 == 0x3F800000#32) = true ∧
    nextIs (busAccess (.write 0x00008#17 4 2#32) { State.reset with cmdLatch := some 0#32, done := true }) (fun t =>
      !t.done && t.resp == .okay) = true := by decide +kernel

/-- V-BUS-3 and V-BUS-7: the model faults are recorded. -/
theorem test_bus_faults :
    nextIs (busAccess (.read 0x00100#17 4) State.reset) (fun t =>
      t.resp == .error && t.faults == [.busError 0x100]) = true ∧
    nextIs (busAccess (.read 0x10000#17 4) (small .none [])) (fun t => t.faults == [.unwrittenRead 0]) = true := by
  decide +kernel

/-- V-BUS-14: a RUN over an unwritten buffer is recorded, has no other effect, and the core step completes (R150). -/
theorem test_run_unwritten :
    nextIs (exec .runInt { small .int [] with cmdLatch := some 0x20000000#32 }) (fun t =>
      t.faults == [.unwrittenRead 0] && readReg t .status == 0x00000102#32 && readReg t .blkcnt == 0#32) = true ∧
    nextIs (exec .runSp (small .sp [1#32, 2#32])) (fun t => t.faults == [.unwrittenRead 2] && !t.spSeeded) = true := by
  decide +kernel

/-- V-COMB-6 and V-COMB-7. -/
theorem test_bus_ctrl_lock :
    nextIs (busAccess (.write 0x00004#17 4 0x10#32) (small .comb [])) (fun t =>
      readReg t .errcode == 5#32 && readReg t .errinfo == 4#32 && readReg t .ctrl == 0#32) = true ∧
    nextIs (busAccess (.write 0x00004#17 4 3#32) (small .comb [])) (fun t => readReg t .ctrl == 3#32 && !t.err) = true := by
  decide +kernel

/-- 20_memory R88: five samples in blocks of four, padded with three zeros. -/
theorem test_frame : frame 4 [1#32, 2#32, 3#32, 4#32, 5#32] = [[1#32, 2#32, 3#32, 4#32], [5#32, 0#32, 0#32, 0#32]] := by
  decide

/-! ## Arithmetic at its corners (00_scope R12, R13; IEEE 754) -/

/-- 1 + 2^-24 is a tie that goes to the even 1; the next odd significand's tie goes up. -/
theorem test_fadd_ties :
    fadd 0x3F800000#32 0x33800000#32 = 0x3F800000#32 ∧ fadd 0x3F800001#32 0x33800000#32 = 0x3F800002#32 := by
  decide +kernel

/-- From the largest subnormal to the least normal, past the largest finite value by half a unit in its last place, and
the two zero sums. -/
theorem test_fadd_range :
    fadd 0x007FFFFF#32 0x00000001#32 = 0x00800000#32 ∧ fadd 0x7F7FFFFF#32 0x73000000#32 = 0x7F800000#32 ∧
    fsub 0x3F800000#32 0x3F800000#32 = 0#32 ∧ fadd 0x80000000#32 0x80000000#32 = 0x80000000#32 := by decide +kernel

/-- Half of the least subnormal is a tie that goes to zero and keeps its sign; three halves of it go to two. -/
theorem test_fmul_subnormal :
    fmul 0x00000001#32 0xBF000000#32 = 0x80000000#32 ∧ fmul 0x00000003#32 0x3F000000#32 = 0x00000002#32 ∧
    fmul 0x7F800000#32 0xC0000000#32 = 0xFF800000#32 := by decide +kernel

/-! ## Witnesses: for each statement with hypotheses, states and operands that meet them -/

theorem next_of_nextIs {r : Result} {p : State → Bool} (s : State) (h : nextIs r p = true) :
    r = .next (nextOr r s) ∧ p (nextOr r s) = true := by
  cases r with
  | next t => exact ⟨rfl, h⟩
  | fault e => cases h
  | refused e => cases h

theorem witness_IllegalWordOnlyRecordsIllegalCommand :
    (∃ w : Word, w.extractLsb' 24 8 ∈ legalOpcodes ∧ w.extractLsb' 0 24 = 0#24) ∧
    (¬ ((0xF1000000#32).extractLsb' 24 8 ∈ legalOpcodes ∧ (0xF1000000#32).extractLsb' 0 24 = 0#24)) ∧
    ¬ ((0xF0000001#32).extractLsb' 24 8 ∈ legalOpcodes ∧ (0xF0000001#32).extractLsb' 0 24 = 0#24) :=
  ⟨⟨0xF0000000#32, by decide⟩, by decide, by decide⟩

theorem witness_StepRunsTheLatchedCommand :
    (∃ s : State, s.rstN = true ∧ s.cmdLatch = some 0#32 ∧ decode 0#32 = .command .nop ∧ s.agenda = []) ∧
    (∃ s : State, s.rstN = true ∧ s.cmdLatch = some 0#32 ∧ decode 0#32 = .command .nop ∧ s.agenda = [.coreTurn]) ∧
    (∃ (s : State) (r : DecodeReject), s.rstN = true ∧ s.cmdLatch = some 1#32 ∧ decode 1#32 = .rejected r ∧
      s.agenda = []) ∧
    (∃ (s : State) (r : DecodeReject), s.rstN = true ∧ s.cmdLatch = some 1#32 ∧ decode 1#32 = .rejected r ∧
      s.agenda = [.coreTurn]) ∧
    (∃ s : State, s.rstN = true ∧ s.cmdLatch = none ∧ s.agenda = []) ∧
    (∃ s : State, s.rstN = true ∧ s.cmdLatch = none ∧ s.agenda = [.coreTurn]) ∧
    ∃ s : State, s.rstN = true ∧ s.agenda = [.access (.read 0x00008#17 4)] :=
  ⟨⟨{ State.reset with cmdLatch := some 0#32 }, rfl, rfl, by decide, rfl⟩,
   ⟨{ State.reset with cmdLatch := some 0#32, agenda := [.coreTurn] }, rfl, rfl, by decide, rfl⟩,
   ⟨{ State.reset with cmdLatch := some 1#32 }, .rsvdNonzero 0#8, rfl, rfl, by decide, rfl⟩,
   ⟨{ State.reset with cmdLatch := some 1#32, agenda := [.coreTurn] }, .rsvdNonzero 0#8, rfl, rfl, by decide, rfl⟩,
   ⟨State.reset, rfl, rfl, rfl⟩, ⟨{ State.reset with agenda := [.coreTurn] }, rfl, rfl, rfl⟩,
   ⟨{ State.reset with agenda := [.access (.read 0x00008#17 4)] }, rfl, rfl⟩⟩

theorem witness_CmdWriteLatchesOnlyWhileIdle :
    (∃ s : State, s.rstN = true ∧ s.cmdLatch = none) ∧ ∃ (s : State) (w : Word), s.rstN = true ∧ s.cmdLatch = some w :=
  ⟨⟨State.reset, rfl, rfl⟩, ⟨{ State.reset with cmdLatch := some 0#32 }, 0#32, rfl, rfl⟩⟩

theorem witness_PinResetDiscardsEverything :
    (∃ s : State, s.cmdLatch.isSome ∧ s.agenda = [.assertReset, .access (.read 0x00008#17 4)]) ∧
    ∃ s : State, s.agenda = [.assertReset, .releaseReset] :=
  ⟨⟨{ State.reset with cmdLatch := some 0#32, agenda := [.assertReset, .access (.read 0x00008#17 4)] }, rfl, rfl⟩,
   ⟨{ State.reset with agenda := [.assertReset, .releaseReset] }, rfl⟩⟩

theorem witness_StatusWriteClearsTheMarkedBits : ∃ s : State, s.rstN = true ∧ s.done ∧ s.err ∧ s.errOvf :=
  ⟨{ State.reset with done := true, err := true, errOvf := true }, rfl, rfl, rfl, rfl⟩

theorem witness_CtrlWriteObeysTheVariantLock :
    (∃ (s : State) (v : Word), s.rstN = true ∧ s.cmdLatch = none ∧
      (s.active = .comb ∧ v.extractLsb' 4 2 ≠ (ctrlWord s).extractLsb' 4 2)) ∧
    ∀ c : BitVec 2, ∃ (s : State) (v : Word), s.rstN = true ∧ s.cmdLatch = none ∧
      ¬ (s.active = .comb ∧ v.extractLsb' 4 2 ≠ (ctrlWord s).extractLsb' 4 2) ∧ v.extractLsb' 4 2 = c :=
  ⟨⟨small .comb [], 0x30#32, rfl, rfl, rfl, by decide⟩,
   fun c => ⟨small .int [], 0#26 ++ c ++ 0xF#4, rfl, rfl, fun h => absurd h.1 (by decide), by revert c; decide⟩⟩

theorem witness_FirstErrorIsKept : (∃ s : State, s.err = false ∧ s.errOvf) ∧ ∃ s : State, s.err = true :=
  ⟨⟨{ State.reset with errOvf := true }, rfl, rfl⟩, ⟨{ State.reset with err := true }, rfl⟩⟩

theorem witness_FailedCommandChangesNothingElse :
    (∃ (i : Instr) (s t : State), i ≠ .finish ∧ i ≠ .srst ∧ exec i s = .next t ∧ s.err = false ∧ t.err = true) ∧
    ∃ (i : Instr) (s t : State), i ≠ .finish ∧ i ≠ .srst ∧ exec i s = .next t ∧ s.errOvf = false ∧ t.errOvf = true :=
  ⟨⟨.runBq, State.reset, _, by decide, by decide, rfl, rfl, rfl⟩,
   ⟨.runBq, { State.reset with err := true }, _, by decide, by decide, rfl, rfl, rfl⟩⟩

theorem witness_FinishClosesAndReportsEmpty :
    (∃ s : State, s.active = .none) ∧ (∃ s : State, s.active ≠ .none ∧ s.nonempty = true) ∧
    ∃ s : State, s.active ≠ .none ∧ s.nonempty = false :=
  ⟨⟨State.reset, rfl⟩, ⟨{ small .comb [] with nonempty := true }, by decide, rfl⟩, ⟨small .int [], by decide, rfl⟩⟩

theorem witness_InitOpensAFreshInvocation : ∃ s : State, s.active = .none ∧ s.blkcnt = 0xFFFFFFFF#32 :=
  ⟨{ State.reset with blkcnt := 0xFFFFFFFF#32 }, rfl, rfl⟩

theorem witness_InitAndRunOutOfSequence :
    (∃ s : State, s.active ≠ .none) ∧
    ∃ s : State, ∀ p ∈ [Kernel.int, Kernel.sp, Kernel.bq, Kernel.comb], s.active ≠ p :=
  ⟨⟨small .int [], by decide⟩, ⟨State.reset, by decide⟩⟩

/-- A state on which each command completes with its own effect: for the RUNs a written block of the active kernel, for
GEN_BQ a cutoff of 1000 at 48000 samples a second. -/
def readyFor : Instr → State
  | .nop | .initInt | .initSp | .initBq | .initComb | .srst => small .none []
  | .runInt => small .int [0x3F800000#32, 0#32, 0#32, 0x3F800000#32]
  | .runSp => small .sp [0x3F800000#32, 0#32, 0#32, 0x3F800000#32]
  | .runBq => small .bq [0x3F800000#32, 0#32, 0#32, 0x3F800000#32]
  | .runComb => small .comb [0x3F800000#32, 0#32, 0#32, 0x3F800000#32]
  | .finish | .abort => { small .comb [] with nonempty := true }
  | .genSp => { small .none [] with spW := 0x40490FDA#32 }
  | .genBq => { small .sp [] with fs := 48000#32, fc := 0x447A0000#32 }

theorem readyFor_completes (i : Instr) : exec i (readyFor i) = .next (nextOr (exec i (readyFor i)) State.reset) ∧
    (nextOr (exec i (readyFor i)) State.reset).err = false := by
  have h : nextIs (exec i (readyFor i)) (fun t => !t.err) = true := by cases i <;> decide +kernel
  have := next_of_nextIs State.reset h
  exact ⟨this.1, by simpa using this.2⟩

/-- Every clause of the lifecycle table is met, completing commands and refused ones. -/
theorem witness_LifecycleTable :
    (∀ i : Instr, ∃ s t, 1 ≤ s.blockSize ∧ exec i s = .next t ∧ t.err = false) ∧
    (∀ k ∈ [Kernel.int, .sp, .bq, .comb], ∃ s : State, 1 ≤ s.blockSize ∧ s.active = k ∧ BlockWritten s) ∧
    (∀ k ∈ [Kernel.int, .sp, .bq, .comb], ∃ s : State, 1 ≤ s.blockSize ∧ s.active = k ∧ ¬ BlockWritten s) ∧
    ∀ i : Instr, i ∈ [Instr.initInt, .initSp, .initBq, .initComb] → ∃ s t, s.active ≠ .none ∧ exec i s = .next t :=
  ⟨fun i => ⟨readyFor i, _, by cases i <;> decide, readyFor_completes i⟩,
   fun k _ => ⟨small k [1#32, 2#32, 3#32, 4#32], by show 1 ≤ 4; decide, rfl, by
    show ∀ i, i < 4 → (readBuf (writeBlock [] 0 [1#32, 2#32, 3#32, 4#32]) i).isSome; decide +kernel⟩,
   fun k _ => ⟨small k [1#32, 2#32, 3#32], by show 1 ≤ 4; decide, rfl, by
    show ¬ ∀ i, i < 4 → (readBuf (writeBlock [] 0 [1#32, 2#32, 3#32]) i).isSome; decide +kernel⟩,
   fun i hi => by
    have h : nextIs (exec i (small .int [])) (fun _ => true) = true := by
      revert hi
      cases i <;> decide +kernel
    exact ⟨small .int [], _, by decide, (next_of_nextIs State.reset h).1⟩⟩

theorem witness_BlkcntCountsSuccessfulRuns :
    (∀ i : Instr, ∃ s t, 1 ≤ s.blockSize ∧ exec i s = .next t) ∧ ∃ (a : Access) (s t : State), busAccess a s = .next t :=
  ⟨fun i => ⟨readyFor i, _, by cases i <;> decide, (readyFor_completes i).1⟩, .write 0x0001C#17 4 1#32, State.reset, _,
    busAccess_write_reg .blkcnt 1#32 rfl⟩

theorem witness_RunIntFiltersTheBlock :
    ∃ (s : State) (xs : List Word), s.active = .int ∧ xs.length = s.blockSize ∧ holdsBlock s.mem xs :=
  ⟨readyFor .runInt, [0x3F800000#32, 0#32, 0#32, 0x3F800000#32], rfl, rfl, by decide +kernel⟩

theorem witness_RunSpFiltersTheBlock :
    (∃ (s : State) (x0 : Word) (xs : List Word), s.active = .sp ∧ (x0 :: xs).length = s.blockSize ∧
      holdsBlock s.mem (x0 :: xs) ∧ s.spSeeded = false) ∧
    ∃ (s : State) (x0 : Word) (xs : List Word), s.active = .sp ∧ (x0 :: xs).length = s.blockSize ∧
      holdsBlock s.mem (x0 :: xs) ∧ s.spSeeded = true :=
  ⟨⟨readyFor .runSp, 0x3F800000#32, [0#32, 0#32, 0x3F800000#32], rfl, rfl, by decide +kernel, rfl⟩,
   ⟨{ readyFor .runSp with spSeeded := true }, 0x3F800000#32, [0#32, 0#32, 0x3F800000#32], rfl, rfl,
     by decide +kernel, rfl⟩⟩

theorem witness_RunBqFiltersTheBlock :
    ∃ (s : State) (xs : List Word), s.active = .bq ∧ xs.length = s.blockSize ∧ holdsBlock s.mem xs :=
  ⟨readyFor .runBq, [0x3F800000#32, 0#32, 0#32, 0x3F800000#32], rfl, rfl, by decide +kernel⟩

theorem witness_RunCombFiltersTheBlock :
    ∀ v : CombVar, ∃ (s : State) (xs : List Word), s.active = .comb ∧ s.combVar = v ∧ xs.length = s.blockSize ∧
      holdsBlock s.mem xs :=
  fun v => ⟨{ readyFor .runComb with combVar := v }, [0x3F800000#32, 0#32, 0#32, 0x3F800000#32], rfl, rfl, rfl,
    by show holdsBlock (readyFor .runComb).mem _; decide +kernel⟩

theorem witness_UnwrittenWordsFault :
    (∃ (s : State) (n : Nat), n < s.blockSize ∧ s.blockSize ≤ 16384 ∧ readBuf s.mem n = none ∧ s.rstN = true ∧
      s.cmdLatch = none) ∧
    (∃ (s : State) (n : Nat), n < s.blockSize ∧ s.blockSize ≤ 16384 ∧ readBuf s.mem n = none ∧ s.rstN = true ∧
      s.cmdLatch = some 0#32) ∧
    ∀ k : Kernel, ∃ (s : State) (n : Nat), n < s.blockSize ∧ s.blockSize ≤ 16384 ∧ readBuf s.mem n = none ∧
      (∀ j, j < n → (readBuf s.mem j).isSome) ∧ s.active = k :=
  ⟨⟨small .none [], 3, by decide, by decide, by decide, rfl, rfl⟩,
   ⟨{ small .none [] with cmdLatch := some 0#32 }, 3, by decide, by decide, by decide, rfl, rfl⟩,
   fun k => ⟨small k [1#32, 2#32, 3#32], 3, by show 3 < 4; decide, by show 4 ≤ 16384; decide,
     by show readBuf (writeBlock [] 0 [1#32, 2#32, 3#32]) 3 = none; decide +kernel,
     by show ∀ j, j < 3 → (readBuf (writeBlock [] 0 [1#32, 2#32, 3#32]) j).isSome; decide +kernel, rfl⟩⟩

theorem witness_CommandsWriteOnlyTheirRegisters :
    (∃ (i : Instr) (s t : State), exec i s = .next t ∧ i ≠ .srst ∧ i ≠ .genSp ∧ i ≠ .genBq ∧ 1 ≤ s.blockSize) ∧
    ∃ (s t : State), exec .runBq s = .next t ∧ 1 ≤ s.blockSize ∧ t.faults ≠ s.faults := by
  have h : nextIs (exec .runBq (small .bq [1#32, 2#32, 3#32])) (fun t => t.faults == [.unwrittenRead 3]) = true := by
    decide +kernel
  obtain ⟨h1, h2⟩ := next_of_nextIs State.reset h
  refine ⟨⟨.runInt, readyFor .runInt, _, (readyFor_completes .runInt).1, by decide, by decide, by decide, by decide⟩,
    small .bq [1#32, 2#32, 3#32], _, h1, by decide, ?_⟩
  rw [beq_iff_eq.1 h2]
  decide

theorem witness_HistoriesBelongToTheirKernels :
    ∃ (i : Instr) (s t : State), exec i s = .next t ∧ i ≠ .srst ∧ i ≠ .initInt ∧ i ≠ .runInt ∧
      ¬ (s.active = .int ∧ (i = .finish ∨ i = .abort)) ∧ i ≠ .initSp ∧ i ≠ .runSp ∧
      ¬ (s.active = .sp ∧ (i = .finish ∨ i = .abort)) ∧ i ≠ .initBq ∧ i ≠ .runBq ∧
      ¬ (s.active = .bq ∧ (i = .finish ∨ i = .abort)) ∧ i ≠ .initComb ∧ i ≠ .runComb ∧
      ¬ (s.active = .comb ∧ (i = .finish ∨ i = .abort)) :=
  ⟨.genBq, readyFor .genBq, _, (readyFor_completes .genBq).1, by decide⟩

theorem witness_OnlyRunsWriteTheBuffer :
    (∃ (i : Instr) (s t : State), exec i s = .next t ∧ i ∉ [Instr.runInt, Instr.runSp, Instr.runBq, Instr.runComb]) ∧
    ∃ (s t : State) (a b : Nat), exec .runComb s = .next t ∧ a < 0x10000 ∧ 0x10000 + 4 * s.blockSize ≤ b :=
  ⟨⟨.nop, State.reset, _, rfl, by decide⟩,
   ⟨readyFor .runComb, _, 0xFFFF, 0x10010, (readyFor_completes .runComb).1, by decide, by decide⟩⟩

/-- One RUN over the block in the buffer, and then the rest of the invocation. -/
theorem filters_cons {i : Instr} {s t : State} {b o : List Word} {bs os : List (List Word)}
    (h : nextIs (exec i s) (fun v => b.length == s.blockSize && o.length == b.length &&
      decide (holdsBlock s.mem b) && decide (holdsBlock v.mem o)) = true)
    (rest : FiltersBlocks i (nextOr (exec i s) s) bs os t) : FiltersBlocks i s (b :: bs) (o :: os) t := by
  obtain ⟨h1, h2⟩ := next_of_nextIs s h
  simp only [Bool.and_eq_true, beq_iff_eq, decide_eq_true_eq] at h2
  exact .cons (sameKernel_refl s) h2.1.1.1 h2.1.2 h1 h2.1.1.2 h2.2 rest

/-- V-INT-1, both blocks; between them the host refills the buffer and loads gains of the comb (45_coefficients R250). -/
theorem witness_IntegratorContinuity :
    ∃ (s t : State), s.active = .int ∧ FiltersBlocks .runInt s
      [[0x3F800000#32, 0#32, 0#32, 0x3F800000#32], [0#32, 0#32, 0#32, 0#32]]
      [[0x3F800000#32, 0x3F800000#32, 0x3F800000#32, 0x40000000#32],
       [0x40000000#32, 0x40000000#32, 0x40000000#32, 0x40000000#32]] t := by
  refine ⟨readyFor .runInt, _, rfl, filters_cons (by decide +kernel) (filtersBlocks_of_sameKernel
    (u := { nextOr (exec .runInt (readyFor .runInt)) (readyFor .runInt) with
      mem := writeBlock [] 0 [0#32, 0#32, 0#32, 0#32], combG1 := 0x3E800000#32 })
    ?_ (filters_cons (by decide +kernel) (.nil _)) (by simp))⟩
  obtain ⟨ha, hb, hi, hs, hq, hc⟩ := sameKernel_refl (nextOr (exec .runInt (readyFor .runInt)) (readyFor .runInt))
  exact ⟨ha, hb, hi, hs, hq, fun h => by revert h; decide +kernel⟩

/-- V-SP-3's numbers with the reset alpha 1.0 (V-SP-5's second block): the seed is the first sample. -/
theorem witness_SinglePoleContinuity :
    ∃ (s t : State) (bs os : List (List Word)) (x0 : Word) (xs : List Word), s.active = .sp ∧
      FiltersBlocks .runSp s bs os t ∧ bs.flatten = x0 :: xs :=
  ⟨small .sp [0x40000000#32, 0x40000000#32, 0x40000000#32, 0x40000000#32], _,
    [[0x40000000#32, 0x40000000#32, 0x40000000#32, 0x40000000#32]],
    [[0x40000000#32, 0x40000000#32, 0x40000000#32, 0x40000000#32]], 0x40000000#32,
    [0x40000000#32, 0x40000000#32, 0x40000000#32], rfl, filters_cons (by decide +kernel) (.nil _), rfl⟩

/-- V-BQ-2. -/
theorem witness_BiquadContinuity :
    ∃ (s t : State), s.active = .bq ∧ FiltersBlocks .runBq s
      [[0x80000000#32, 0x3F800000#32, 0xC0000000#32, 0x3F000000#32]]
      [[0#32, 0x3F800000#32, 0xC0000000#32, 0x3F000000#32]] t :=
  ⟨small .bq [0x80000000#32, 0x3F800000#32, 0xC0000000#32, 0x3F000000#32], _, rfl, filters_cons (by decide +kernel) (.nil _)⟩

/-- V-COMB-0, first block. -/
theorem witness_CombContinuity :
    ∃ (s t : State), s.active = .comb ∧ FiltersBlocks .runComb s
      [[0x3F800000#32, 0#32, 0#32, 0#32]] [[0x3F800000#32, 0#32, 0#32, 0x3E000000#32]] t :=
  ⟨small .comb [0x3F800000#32, 0#32, 0#32, 0#32], _, rfl, filters_cons (by decide +kernel) (.nil _)⟩

theorem witness_IdentityBiquadReproducesFiniteSamples :
    ∃ (s : State) (xs : List Word), s.active = .bq ∧ s.bqCoeffs = ⟨0x3F800000#32, 0#32, 0#32, 0#32, 0#32⟩ ∧
      isFinite s.bqHist.x1 = true ∧ isFinite s.bqHist.x2 = true ∧ isFinite s.bqHist.y1 = true ∧
      isFinite s.bqHist.y2 = true ∧ xs.length = s.blockSize ∧ holdsBlock s.mem xs ∧ ∀ x ∈ xs, isFinite x = true :=
  ⟨small .bq [0x80000000#32, 0x7F7FFFFF#32, 1#32, 0x3F000000#32],
    [0x80000000#32, 0x7F7FFFFF#32, 1#32, 0x3F000000#32], rfl, rfl, (by decide : isFinite 0#32 = true),
    (by decide : isFinite 0#32 = true), (by decide : isFinite 0#32 = true), (by decide : isFinite 0#32 = true), rfl,
    by decide +kernel,
    fun x hx => by
      simp only [List.mem_cons, List.not_mem_nil, or_false] at hx
      rcases hx with rfl | rfl | rfl | rfl <;> decide⟩

theorem witness_SinglePoleFirstOutputIsTheFirstSample :
    ∀ x0 ∈ [0x80000000#32, 0x7F7FFFFF#32], ∃ (s : State) (xs : List Word), s.active = .sp ∧ s.spSeeded = false ∧
      (x0 :: xs).length = s.blockSize ∧ holdsBlock s.mem (x0 :: xs) ∧ isFinite x0 = true ∧
      isFinite s.spAlpha = true := by
  intro x0 hx
  simp only [List.mem_cons, List.not_mem_nil, or_false] at hx
  rcases hx with rfl | rfl
  · exact ⟨small .sp [0x80000000#32, 1#32, 2#32, 3#32], [1#32, 2#32, 3#32], rfl, rfl, rfl, by decide +kernel,
      by decide, by decide⟩
  · exact ⟨small .sp [0x7F7FFFFF#32, 1#32, 2#32, 3#32], [1#32, 2#32, 3#32], rfl, rfl, rfl, by decide +kernel,
      by decide, by decide⟩

theorem witness_PassCombLeavesTheBufferAlone :
    ∃ (s : State) (xs : List Word), s.active = .comb ∧ s.combVar = .pass ∧ xs.length = s.blockSize ∧
      holdsBlock s.mem xs :=
  ⟨{ readyFor .runComb with combVar := .pass }, [0x3F800000#32, 0#32, 0#32, 0x3F800000#32], rfl, rfl, rfl,
    by show holdsBlock (readyFor .runComb).mem _; decide +kernel⟩

/-- The largest finite value, and the least subnormal with -0.0. -/
theorem witness_SumsAndDifferencesAreCorrectlyRounded :
    (isFinite 0x7F7FFFFF#32 = true ∧ isFinite 0xFF7FFFFF#32 = true) ∧
    isFinite 0x00000001#32 = true ∧ isFinite 0x80000000#32 = true := by decide

theorem witness_ProductsAreCorrectlyRounded :
    ∃ a b : Word, isFinite a = true ∧ isFinite b = true :=
  ⟨0x7F7FFFFF#32, 0x00000001#32, by decide, by decide⟩

theorem witness_SpecialValuesFollowIeee :
    (∃ a b : Word, isNaN a = true ∨ isNaN b = true) ∧
    (∃ a b : Word, isInf a = true ∧ isInf b = true ∧ signBit a = signBit b) ∧
    (∃ a b : Word, isInf a = true ∧ isInf b = true ∧ signBit a ≠ signBit b) ∧
    (∃ a b : Word, isInf a = true ∧ isFinite b = true) ∧
    (∃ a b : Word, isInf a = true ∧ isFinite b = true ∧ units b = 0) ∧
    (∃ a b : Word, isInf a = true ∧ isNaN b = false ∧ ¬ (isFinite b = true ∧ units b = 0)) ∧
    (∃ a b : Word, isFinite a = true ∧ isFinite b = true ∧ units a + units b = 0) ∧
    (∃ a b : Word, isFinite a = true ∧ isFinite b = true ∧ units a - units b = 0) ∧
    ∃ a b : Word, isFinite a = true ∧ isFinite b = true :=
  ⟨⟨0x7FC00000#32, 0#32, by decide⟩, ⟨0xFF800000#32, 0xFF800000#32, by decide⟩,
   ⟨0x7F800000#32, 0xFF800000#32, by decide⟩,
   ⟨0xFF800000#32, 0x7F7FFFFF#32, by decide⟩, ⟨0x7F800000#32, 0x80000000#32, by decide⟩,
   ⟨0x7F800000#32, 0x00000001#32, by decide⟩, ⟨0x80000000#32, 0x80000000#32, by decide⟩,
   ⟨0x80000000#32, 0#32, by decide⟩,
   ⟨0#32, 0x80000000#32, by decide⟩⟩

theorem witness_GeneratorsDependOnTheirInputsAlone :
    (∃ s s' t t' : State, s.active = s'.active ∧ s.err = s'.err ∧ s.errOvf = s'.errOvf ∧ s.errCode = s'.errCode ∧
      s.errInfo = s'.errInfo ∧ s.spW = s'.spW ∧ s.spAlpha = s'.spAlpha ∧ s.blkcnt ≠ s'.blkcnt ∧ exec .genSp s = .next t ∧ exec .genSp s' = .next t') ∧
    ∃ s s' t t' : State, s.active = s'.active ∧ s.err = s'.err ∧ s.errOvf = s'.errOvf ∧ s.errCode = s'.errCode ∧
      s.errInfo = s'.errInfo ∧ s.fs = s'.fs ∧ s.fc = s'.fc ∧ s.q = s'.q ∧ s.bqCoeffs = s'.bqCoeffs ∧ exec .genBq s = .next t ∧ exec .genBq s' = .next t' :=
  ⟨⟨readyFor .genSp, { readyFor .genSp with blkcnt := 1#32 }, _, _, rfl, rfl, rfl, rfl, rfl, rfl, rfl, by decide,
      (readyFor_completes .genSp).1, rfl⟩,
   ⟨readyFor .genBq, readyFor .genBq, _, _, rfl, rfl, rfl, rfl, rfl, rfl, rfl, rfl, rfl, (readyFor_completes .genBq).1,
      (readyFor_completes .genBq).1⟩⟩

theorem witness_ReferenceGeneratorProperties :
    (∃ fs fc q : ℝ, 0 < fc ∧ 2 * fc < fs ∧ 0 < q) ∧ (∃ w : ℝ, 0 < w ∧ w < Real.pi) ∧
    ∃ w w' : ℝ, 0 < w ∧ w < w' ∧ w' < Real.pi :=
  ⟨⟨3, 1, 1, by norm_num, by norm_num, by norm_num⟩, ⟨1, by norm_num, by linarith [Real.pi_gt_three]⟩,
   ⟨1, 2, by norm_num, by norm_num, by linarith [Real.pi_gt_three]⟩⟩

/-- The two ends of each range of the map, for a buffer of four words. -/
theorem witness_AddressMap :
    (0x00084 % 4 = 0 ∧ 0x00084 ≤ 0x00084) ∧ (0x00088 % 4 = 0 ∧ 0x00088 ≤ 0x00088 ∧ 0x000FC ≤ 0x000FC) ∧
    (0x00100 % 4 = 0 ∧ 0x00100 ≤ 0x00100 ∧ 0x0FFFC % 4 = 0 ∧ 0x0FFFC ≤ 0x0FFFC) ∧
    ((3 : Nat) < 4 ∧ 0x1000C = 0x10000 + 4 * 3) ∧ 0x10000 + 4 * 4 ≤ 0x10010 ∧
    targetOf 4 0x00084 = .reg .combY3 ∧ targetOf 4 0x00088 = .reserved ∧ targetOf 4 0x000FC = .reserved ∧
    targetOf 4 0x00100 = .unmapped ∧ targetOf 4 0x0FFFC = .unmapped ∧ targetOf 4 0x1000C = .buffer 3 ∧
    targetOf 4 0x10010 = .unmapped := by decide

theorem witness_BadAccessIsABusErrorOnly :
    ∃ s : State, s.rstN = true ∧ (Access.read 0x00008#17 2).size ≠ 4 ∧ (Access.read 0x00006#17 4).off.toNat % 4 ≠ 0 ∧
      (0x00100 ≤ (Access.write 0x00100#17 4 0#32).off.toNat ∧ (Access.write 0x00100#17 4 0#32).off.toNat ≤ 0x0FFFC) ∧
      0x10000 + 4 * s.blockSize ≤ (Access.read 0x10010#17 4).off.toNat :=
  ⟨small .none [], by decide⟩

theorem witness_IdleReadsReturnTheState :
    ∃ (s : State) (i : Nat) (w : Word), s.rstN = true ∧ s.cmdLatch = none ∧ s.blockSize ≤ 16384 ∧ (29 : Nat) < 30 ∧
      i < s.blockSize ∧ readBuf s.mem i = some w :=
  ⟨small .none [1#32, 2#32, 3#32, 4#32], 3, 4#32, by decide +kernel⟩

theorem witness_BusyWindowAccesses :
    ∃ (s : State) (w : Word) (i : Nat) (off : BitVec 17), s.rstN = true ∧ s.cmdLatch = some w ∧ s.blockSize ≤ 16384 ∧
      Reg.blksz ∈ [Reg.id, Reg.ctrl, Reg.status, Reg.errcode, Reg.errinfo, Reg.blksz] ∧
      Reg.cmd ∉ [Reg.id, Reg.ctrl, Reg.status, Reg.errcode, Reg.errinfo, Reg.blksz] ∧
      i < s.blockSize ∧ (readBuf s.mem i).isSome ∧ off ≠ 0x00008#17 ∧ off.toNat % 4 = 0 ∧
      (off.toNat ≤ 0x000FC ∨ (0x10000 ≤ off.toNat ∧ off.toNat < 0x10000 + 4 * s.blockSize)) ∧ (29 : Nat) < 30 ∧
      accessBad s.blockSize (.read 0x10010#17 4) = true :=
  ⟨{ small .none [1#32, 2#32, 3#32, 4#32] with cmdLatch := some 0#32 }, 0#32, 3, 0x1000C#17, by decide +kernel⟩

theorem witness_ReadsHaveNoSideEffect :
    (∃ s t : State, busAccess (.read 0x00008#17 4) s = .next t) ∧
    ∃ s t : State, busAccess (.read 0x00006#17 2) s = .next t :=
  ⟨⟨State.reset, _, busAccess_read_reg .status rfl⟩, ⟨State.reset, _, rfl⟩⟩

theorem witness_CoefficientWriteObeysTheLock :
    (∃ s : State, s.rstN = true ∧ s.cmdLatch = none ∧ s.active = .bq) ∧
    ∃ s : State, s.rstN = true ∧ s.cmdLatch = none ∧ s.active ≠ .bq :=
  ⟨⟨small .bq [], rfl, rfl, rfl⟩, ⟨small .sp [], rfl, rfl, by decide⟩⟩

theorem witness_GeneratorInputWritesAreNeverLocked :
    ∃ s : State, s.rstN = true ∧ s.cmdLatch = none ∧ s.active = .bq :=
  ⟨small .bq [], rfl, rfl, rfl⟩

theorem witness_ReadOnlyWritesAreIgnored :
    ∃ s : State, s.rstN = true ∧ s.cmdLatch = none ∧ (29 : Nat) < 30 :=
  ⟨small .int [], rfl, rfl, by decide⟩

theorem witness_BufferWriteThenRead :
    ∃ (s : State) (i a b : Nat), s.rstN = true ∧ s.cmdLatch = none ∧ s.blockSize ≤ 16384 ∧ i < s.blockSize ∧
      a < 0x10000 + 4 * i ∧ 0x10000 + 4 * i + 4 ≤ b :=
  ⟨{ State.reset with blockSize := 16384 }, 16383, 0x1FFFB, 0x20000, rfl, rfl, by decide, by decide, by decide,
    by decide⟩

theorem witness_HostAccessesKeepTheInvocation :
    ∃ (a : Access) (s t : State) (w : Word), busAccess a s = .next t ∧ s.cmdLatch = some w :=
  ⟨.write 0x0000C#17 4 1#32, { State.reset with cmdLatch := some 0#32 }, _, 0#32,
    busAccess_write_reg .cmd 1#32 rfl, rfl⟩

theorem witness_UnframeOfFramePadsWithZeros : ∃ n : Nat, 0 < n :=
  ⟨1, by decide⟩

/-- A state with an open invocation, a recorded error and two written words. -/
def busyOpen : State :=
  { small .sp [1#32, 2#32] with nonempty := true, spSeeded := true, spY1 := 2#32, err := true, errCode := .sequence }

theorem witness_EveryStepKeepsTheInvariant : ∃ s t : State, MachineInv s ∧ step s = .next t := by
  refine ⟨busyOpen, busyOpen, ?_, rfl⟩
  have words : ∀ i, (readBuf busyOpen.mem i).isSome ∨ ∀ k, k < 4 → readByte busyOpen.mem (bufAddr i + k) = none := by
    intro i
    match i with
    | 0 => exact .inl (by decide +kernel)
    | 1 => exact .inl (by decide +kernel)
    | i + 2 =>
      refine .inr fun k _ => ?_
      show readByte (writeBlock [] 0 [1#32, 2#32]) _ = none
      rw [readByte_writeBlock_of_outside _ _ _ (.inr (by simp only [bufAddr, bufBase, List.length_cons]; simp; omega))]
      rfl
  exact {
    blockSize_pos := by decide
    blockSize_le := by decide
    mem_wf := by decide +kernel
    mem_inside := by decide +kernel
    mem_words := words
    int_clear := fun _ => rfl
    sp_clear := fun h => absurd rfl h
    bq_clear := fun _ => rfl
    comb_clear := fun _ => rfl
    nonempty_open := by decide
    seeded_iff := by decide
    err_clear := by decide
    err_code := by decide
    reset_idle := by decide }

theorem witness_OwnedRegistersAreLocked :
    ∀ k ∈ [Kernel.sp, Kernel.bq, Kernel.comb], ∃ s t : State, step s = .next t ∧ t.active = s.active ∧ s.active = k :=
  fun k _ => ⟨small k [], small k [], rfl, rfl, rfl⟩

theorem witness_FaultRecordsAndBlockSizePersist : ∃ s t : State, step s = .next t ∧ s.faults ≠ [] :=
  ⟨{ State.reset with faults := [.busError 6] }, _, rfl, by decide⟩

end Sys2Proof.Tests
end

section
/-! PROOFS. What the core's turn and an agenda entry do, each as one equation (00_scope R8, 40_sequencing R150). -/

namespace Sys2Proof.Machine

/-! ## The step -/

theorem step_of_agenda_nil {s : State} (h : s.agenda = []) : step s = coreStep s := by
  unfold step advance
  rw [h]

theorem step_coreTurn {s : State} {rest : List Event} (h : s.agenda = .coreTurn :: rest) :
    step s = coreStep { s with agenda := rest } := by
  unfold step advance
  rw [h]
  rfl

theorem coreStep_of_idle {s : State} (hr : s.rstN = true) (hl : s.cmdLatch = none) : coreStep s = .next s := by
  simp [coreStep, hr, hl]

theorem coreStep_of_command {s : State} {w : Word} {i : Instr} (hr : s.rstN = true) (hl : s.cmdLatch = some w)
    (hd : decode w = .command i) : coreStep s = exec i s := by
  simp [coreStep, performWord, hr, hl, hd]

theorem coreStep_of_rejected {s : State} {w : Word} {r : DecodeReject} (hr : s.rstN = true)
    (hl : s.cmdLatch = some w) (hd : decode w = .rejected r) :
    coreStep s = .next (complete (raiseError .illegalCommand w s)) := by
  simp [coreStep, performWord, hr, hl, hd]

/-- Settles O4: the agenda picks the core's turn or the access, and the latch and the decoder pick what a turn does. -/
theorem stepRunsTheLatchedCommand : Obligations.StepRunsTheLatchedCommand := by
  unfold Obligations.StepRunsTheLatchedCommand
  intro s rest w i r hr
  refine ⟨fun hl hd ha => ?_, fun hl hd ha => ?_, fun hl hd ha => ?_, fun hl hd ha => ?_, fun hl ha => ?_,
    fun hl ha => ?_, fun a ha => step_access ha⟩
  · exact (step_of_agenda_nil ha).trans (coreStep_of_command hr hl hd)
  · exact (step_coreTurn ha).trans (coreStep_of_command hr hl hd)
  · exact (step_of_agenda_nil ha).trans (coreStep_of_rejected hr hl hd)
  · exact (step_coreTurn ha).trans (coreStep_of_rejected hr hl hd)
  · exact (step_of_agenda_nil ha).trans (coreStep_of_idle hr hl)
  · exact (step_coreTurn ha).trans (coreStep_of_idle hr hl)

end Sys2Proof.Machine
end

section
/-! PROOFS. The three primitives on NaN, infinities and zeros (00_scope R13): one equation per case of a sum and of a
product, and the statement assembled from them. -/

namespace Sys2Proof.Machine

/-! ## Classes of values: NaN, infinity, finite -/

theorem isNaN_of_isInf {v : Word} (h : isInf v = true) : isNaN v = false := by
  simp_all [isInf, isNaN]

theorem isNaN_of_isFinite {v : Word} (h : isFinite v = true) : isNaN v = false := by
  simp_all [isFinite, isNaN]

theorem isInf_of_isFinite {v : Word} (h : isFinite v = true) : isInf v = false := by
  simp_all [isFinite, isInf]

theorem isFinite_or_isInf_of_not_isNaN {v : Word} (h : isNaN v = false) : isFinite v = true ∨ isInf v = true := by
  by_cases he : expField v = 255
  · exact .inr (by simp_all [isNaN, isInf])
  · exact .inl (by simp [isFinite, he])

theorem units_eq_zero_iff (v : Word) : units v = 0 ↔ magUnits v = 0 := by
  unfold units
  split <;> omega

theorem magUnits_ne_zero_of_isInf {v : Word} (h : isInf v = true) : magUnits v ≠ 0 := by
  have he : expField v ≠ 0 := by simp_all [isInf]
  rw [magUnits, if_neg he]
  positivity

theorem isInf_packSign_inf (neg : Bool) : isInf (packSign neg 0x7F800000) = true := by
  cases neg <;> decide

theorem packSign_zero (neg : Bool) : packSign neg 0 = if neg then 0x80000000#32 else 0#32 := by
  cases neg <;> rfl

theorem roundMag_lt (m k : Nat) : roundMag m k < 2 ^ 31 :=
  (roundMag_le m k).trans_lt (by decide)

/-! ## A sum, case by case -/

section AddSigned
variable (op : FloatOp) (a b : Word) {b' : Word}

theorem addSigned_of_isNaN (h : isNaN a = true ∨ isNaN b' = true) : addSigned op a b b' = nanResult op a b := by
  rw [addSigned, if_pos (by simpa using h)]

theorem addSigned_of_inf_inf (ha : isInf a = true) (hb : isInf b' = true) :
    addSigned op a b b' = if signBit a = signBit b' then a else nanResult op a b := by
  by_cases hs : signBit a = signBit b' <;> simp [addSigned, isNaN_of_isInf, ha, hb, hs]

theorem addSigned_of_inf_finite (ha : isInf a = true) (hb : isFinite b' = true) : addSigned op a b b' = a := by
  simp [addSigned, isNaN_of_isInf, isNaN_of_isFinite, isInf_of_isFinite, ha, hb]

theorem addSigned_of_finite_inf (ha : isFinite a = true) (hb : isInf b' = true) : addSigned op a b b' = b' := by
  simp [addSigned, isNaN_of_isInf, isNaN_of_isFinite, isInf_of_isFinite, ha, hb]

theorem addSigned_of_finite (ha : isFinite a = true) (hb : isFinite b' = true) :
    addSigned op a b b' =
      if units a + units b' = 0 then packSign (signBit a && signBit b') 0
      else packSign (decide (units a + units b' < 0)) (roundMag (units a + units b').natAbs 0) := by
  simp [addSigned, isNaN_of_isFinite, isInf_of_isFinite, ha, hb]

end AddSigned

theorem fadd_of_inf_inf {a b : Word} (ha : isInf a = true) (hb : isInf b = true) :
    fadd a b = if signBit a = signBit b then a else nanResult .add a b :=
  addSigned_of_inf_inf _ _ _ ha hb

theorem fsub_of_inf_inf {a b : Word} (ha : isInf a = true) (hb : isInf b = true) :
    fsub a b = if signBit a = signBit b then nanResult .sub a b else a := by
  rw [fsub, addSigned_of_inf_inf _ _ _ ha (by rwa [isInf_negate]), signBit_negate]
  cases signBit a <;> cases signBit b <;> simp

/-! ## A product, case by case -/

theorem fmul_of_isNaN {a b : Word} (h : isNaN a = true ∨ isNaN b = true) : fmul a b = nanResult .mul a b := by
  rw [fmul, if_pos (by simpa using h)]

theorem fmul_of_finite {a b : Word} (ha : isFinite a = true) (hb : isFinite b = true) :
    fmul a b = packSign (signBit a != signBit b) (roundMag (magUnits a * magUnits b) 149) := by
  simp [fmul, isNaN_of_isFinite, isInf_of_isFinite, ha, hb]

theorem fmul_of_inf_zero {a b : Word} (ha : isInf a = true) (hb : isFinite b = true) (h0 : magUnits b = 0) :
    fmul a b = nanResult .mul a b ∧ fmul b a = nanResult .mul b a := by
  simp [fmul, isNaN_of_isInf, isNaN_of_isFinite, ha, hb, h0]

theorem fmul_of_inf_nonzero {a b : Word} (ha : isInf a = true) (hb : isNaN b = false) (h0 : magUnits b ≠ 0) :
    fmul a b = packSign (signBit a != signBit b) 0x7F800000 ∧
    fmul b a = packSign (signBit b != signBit a) 0x7F800000 := by
  simp [fmul, isNaN_of_isInf, ha, hb, h0, magUnits_ne_zero_of_isInf]

/-! ## The statement -/

/-- Settles O39, a clause at a time, by the equations of the sum and of the product above. -/
theorem specialValuesFollowIeee : Obligations.SpecialValuesFollowIeee := by
  unfold Obligations.SpecialValuesFollowIeee
  intro a b
  refine ⟨fun h => ?_, fun ha hb hs => ?_, fun ha hb hs => ?_, fun ha hb => ?_, fun ha hb h0 => ?_,
    fun ha hb h0 => ?_, fun ha hb h0 => ?_, fun ha hb h0 => ?_, fun ha hb => ?_⟩
  · have hn : isNaN a = true ∨ isNaN (negate b) = true := by rwa [isNaN_negate]
    rw [fadd, fsub, addSigned_of_isNaN _ _ _ h, addSigned_of_isNaN _ _ _ hn, fmul_of_isNaN h]
    exact ⟨isNaN_nanResult _ _ _, isNaN_nanResult _ _ _, isNaN_nanResult _ _ _⟩
  · simp [fadd_of_inf_inf ha hb, fsub_of_inf_inf ha hb, hs, isNaN_nanResult]
  · simp [fadd_of_inf_inf ha hb, fsub_of_inf_inf ha hb, hs, isNaN_nanResult]
  · have hna : isInf (negate a) = true := by rwa [isInf_negate]
    have hnb : isFinite (negate b) = true := by rwa [isFinite_negate]
    exact ⟨addSigned_of_inf_finite _ _ _ ha hb, addSigned_of_finite_inf _ _ _ hb ha,
      addSigned_of_inf_finite _ _ _ ha hnb, addSigned_of_finite_inf _ _ _ hb hna⟩
  · obtain ⟨hab, hba⟩ := fmul_of_inf_zero ha hb ((units_eq_zero_iff b).1 h0)
    rw [hab, hba]
    exact ⟨isNaN_nanResult _ _ _, isNaN_nanResult _ _ _⟩
  · have hm : magUnits b ≠ 0 := by
      rcases isFinite_or_isInf_of_not_isNaN hb with hf | hi
      · exact fun hz => h0 ⟨hf, (units_eq_zero_iff b).2 hz⟩
      · exact magUnits_ne_zero_of_isInf hi
    obtain ⟨hab, hba⟩ := fmul_of_inf_nonzero ha hb hm
    rw [hab, hba]
    exact ⟨isInf_packSign_inf _, signBit_packSign _ (by decide), isInf_packSign_inf _,
      (signBit_packSign _ (by decide)).trans (bne_comm ..)⟩
  · rw [fadd, addSigned_of_finite _ _ _ ha hb, if_pos h0, packSign_zero]
  · have hn : isFinite (negate b) = true := by rwa [isFinite_negate]
    have hz : units a + units (negate b) = 0 := by rwa [units_negate]
    rw [fsub, addSigned_of_finite _ _ _ ha hn, if_pos hz, packSign_zero, signBit_negate]
  · rw [fmul_of_finite ha hb]
    exact signBit_packSign _ (roundMag_lt _ _)

end Sys2Proof.Machine
end

section
/-! PROOFS. The three primitives on finite operands (00_scope R12, R13). An exact result is an integer number of units
of 2^-(149+k); `roundShift` finds the nearest multiple of a power of two, every finite value is such a multiple or lies
below the binade of the result, and so the packed magnitude is the nearest binary32, ties to even. -/

namespace Sys2Proof.Machine

/-! ## Rounding to a multiple of a power of two -/

/-- `roundShift m d` is `m / 2^d` to within half a unit, and even when it is half a unit off. -/
theorem roundShift_halfUnit (m d : Nat) :
    2 * m ≤ 2 * (roundShift m d * 2 ^ d) + 2 ^ d ∧ 2 * (roundShift m d * 2 ^ d) ≤ 2 * m + 2 ^ d ∧
    (2 * m = 2 * (roundShift m d * 2 ^ d) + 2 ^ d ∨ 2 * (roundShift m d * 2 ^ d) = 2 * m + 2 ^ d →
      roundShift m d % 2 = 0) := by
  have hr : m % 2 ^ d < 2 ^ d := Nat.mod_lt _ (by positivity)
  have hm : m / 2 ^ d * 2 ^ d + m % 2 ^ d = m := Nat.div_add_mod' m (2 ^ d)
  unfold roundShift
  split
  · rw [add_mul, one_mul]
    omega
  · omega

theorem mul_two_pow_add_le {n q : Nat} (d : Nat) (h : n < q) : n * 2 ^ d + 2 ^ d ≤ q * 2 ^ d := by
  rw [← Nat.succ_mul]
  exact Nat.mul_le_mul_right _ h

theorem roundShift_le {m d n : Nat} (h : m ≤ n * 2 ^ d) : roundShift m d ≤ n := by
  have hhalf := roundShift_halfUnit m d
  have hpos : 0 < 2 ^ d := by positivity
  by_contra! hlt
  have hstep := mul_two_pow_add_le d hlt
  omega

/-- An even `n` is reached from half a unit below it on. -/
theorem le_roundShift_iff {n : Nat} (m d : Nat) (hn : n % 2 = 0) :
    n ≤ roundShift m d ↔ 2 * (n * 2 ^ d) ≤ 2 * m + 2 ^ d := by
  obtain ⟨hlo, hhi, htie⟩ := roundShift_halfUnit m d
  have hpos : 0 < 2 ^ d := by positivity
  constructor
  · intro h
    have hle := Nat.mul_le_mul_right (2 ^ d) h
    omega
  · intro h
    by_contra! hlt
    have hstep := mul_two_pow_add_le d hlt
    have heven : roundShift m d % 2 = 0 := htie (.inl (by omega))
    have hstep' := mul_two_pow_add_le d (show roundShift m d + 1 < n by omega)
    rw [add_mul, one_mul] at hstep'
    omega

/-- No multiple of `2^d` is nearer to `m` than `roundShift m d`, and a tie is won by the even quotient. -/
theorem roundShift_nearest (m d n : Nat) :
    ((roundShift m d * 2 ^ d : Nat) - m : ℤ).natAbs ≤ ((n * 2 ^ d : Nat) - m : ℤ).natAbs ∧
    (n ≠ roundShift m d →
      ((roundShift m d * 2 ^ d : Nat) - m : ℤ).natAbs = ((n * 2 ^ d : Nat) - m : ℤ).natAbs →
      roundShift m d % 2 = 0) := by
  have hhalf := roundShift_halfUnit m d
  rcases lt_trichotomy n (roundShift m d) with hlt | rfl | hlt
  · have hstep := mul_two_pow_add_le d hlt
    omega
  · exact ⟨le_rfl, fun h => absurd rfl h⟩
  · have hstep := mul_two_pow_add_le d hlt
    omega

/-! ## Rounding a magnitude to binary32 -/

theorem le_dropBits (m k : Nat) : k ≤ dropBits m k :=
  le_max_left _ _

/-- At most 24 significant bits stay. -/
theorem lt_two_pow_dropBits (m k : Nat) : m < 2 ^ 24 * 2 ^ dropBits m k := by
  rw [← pow_add]
  refine Nat.lt_log2_self.trans_le (Nat.pow_le_pow_right (by decide) ?_)
  unfold dropBits
  omega

/-- All 24 significant bits stay where more is dropped than the `k` bits below the least subnormal. -/
theorem two_pow_dropBits_le {m k : Nat} (h : k < dropBits m k) : 2 ^ 23 * 2 ^ dropBits m k ≤ m := by
  have hlog : 23 + dropBits m k = Nat.log2 m := by
    unfold dropBits at h ⊢
    omega
  have hm : m ≠ 0 := by
    rintro rfl
    simp [dropBits] at h
  rw [← pow_add, hlog]
  exact Nat.log2_self_le hm

/-- The significand of a magnitude rounded to binary32: 24 bits, or the carry out of them. -/
def roundedSignificand (m k : Nat) : Nat :=
  roundShift m (dropBits m k)

theorem roundMag_eq (m k : Nat) :
    roundMag m k = min ((dropBits m k - k) * 2 ^ 23 + roundedSignificand m k) 0x7F800000 :=
  rfl

theorem roundMag_of_lt_inf {m k : Nat} (h : roundMag m k < 0x7F800000) :
    roundMag m k = (dropBits m k - k) * 2 ^ 23 + roundedSignificand m k := by
  rw [roundMag_eq] at h ⊢
  omega

theorem roundedSignificand_le (m k : Nat) : roundedSignificand m k ≤ 2 ^ 24 :=
  roundShift_le (lt_two_pow_dropBits m k).le

theorem le_roundedSignificand {m k : Nat} (h : k < dropBits m k) : 2 ^ 23 ≤ roundedSignificand m k :=
  (le_roundShift_iff _ _ (by decide)).2 (by have := two_pow_dropBits_le h; omega)

/-- The magnitudes that overflow are those from half a unit in the last place above the largest finite value on. -/
theorem roundMag_eq_inf_iff (m k : Nat) : roundMag m k = 0x7F800000 ↔ (2 ^ 25 - 1) * 2 ^ (252 + k) ≤ m := by
  have hle := roundedSignificand_le m k
  rw [roundMag_eq]
  rcases lt_trichotomy (dropBits m k) (253 + k) with hd | hd | hd
  · have hlt := lt_two_pow_dropBits m k
    have hpow : 2 ^ dropBits m k ≤ 2 ^ (252 + k) := Nat.pow_le_pow_right (by decide) (by omega)
    omega
  · have hcarry : 2 ^ 24 ≤ roundedSignificand m k ↔ _ := le_roundShift_iff m (dropBits m k) (by decide)
    have hpow : 2 ^ dropBits m k = 2 * 2 ^ (252 + k) := by rw [hd, ← pow_succ']; congr 1; omega
    omega
  · have hnormal := le_roundedSignificand (show k < dropBits m k by omega)
    have hlt := two_pow_dropBits_le (show k < dropBits m k by omega)
    have hpow : 2 ^ (254 + k) ≤ 2 ^ dropBits m k := Nat.pow_le_pow_right (by decide) (by omega)
    have hfour : 2 ^ (254 + k) = 4 * 2 ^ (252 + k) := by rw [show 254 + k = 252 + k + 2 by omega, pow_add]; omega
    omega

/-- No value of at most 24 significant bits, and nothing that is not positive, is nearer to `m` than the rounded
magnitude is; a tie is won by the even significand. A value that is not positive is no nearer than 0; a value with a
coarse enough last place is a multiple of the rounding step; and any other lies below `2^23` steps, hence below `m`. -/
theorem roundedSignificand_nearest (m k : Nat) {t : ℤ}
    (ht : t ≤ 0 ∨ ∃ c e : Nat, c < 2 ^ 24 ∧ t = (c * 2 ^ (e + k) : Nat)) :
    ((roundedSignificand m k * 2 ^ dropBits m k : Nat) - m : ℤ).natAbs ≤ (t - m).natAbs ∧
    (t ≠ (roundedSignificand m k * 2 ^ dropBits m k : Nat) →
      ((roundedSignificand m k * 2 ^ dropBits m k : Nat) - m : ℤ).natAbs = (t - m).natAbs →
      roundedSignificand m k % 2 = 0) := by
  have hnear := roundShift_nearest m (dropBits m k)
  unfold roundedSignificand
  rcases ht with hneg | ⟨c, e, hc, rfl⟩
  · have hzero := hnear 0
    rw [Nat.zero_mul] at hzero
    refine ⟨by omega, fun hne heq => hzero.2 ?_ (by omega)⟩
    intro h0
    rw [← h0, Nat.zero_mul] at hne heq
    omega
  · rcases le_or_gt (dropBits m k) (e + k) with hd | hd
    · have hgrid : c * 2 ^ (e + k) = c * 2 ^ (e + k - dropBits m k) * 2 ^ dropBits m k := by
        rw [mul_assoc, ← pow_add, Nat.sub_add_cancel hd]
      rw [hgrid]
      obtain ⟨hle, htie⟩ := hnear (c * 2 ^ (e + k - dropBits m k))
      exact ⟨hle, fun hne => htie fun h => hne (by rw [h])⟩
    · have hbound := two_pow_dropBits_le (show k < dropBits m k by omega)
      have hpow : 2 * 2 ^ (e + k) ≤ 2 ^ dropBits m k := by
        rw [← pow_succ']
        exact Nat.pow_le_pow_right (by decide) hd
      have hc' : c * 2 ^ (e + k) < 2 ^ 24 * 2 ^ (e + k) := Nat.mul_lt_mul_of_pos_right hc (by positivity)
      have hbin := (hnear (2 ^ 23)).1
      omega

/-! ## Packed patterns -/

theorem magUnits_packSign (neg : Bool) {q e : Nat} (hq : q ≤ 2 ^ 24) (he : e ≠ 0 → 2 ^ 23 ≤ q)
    (h : e * 2 ^ 23 + q < 2 ^ 31) : magUnits (packSign neg (e * 2 ^ 23 + q)) = q * 2 ^ e := by
  rw [magUnits, expField_packSign neg h, fracField_packSign neg h]
  rcases lt_or_ge q (2 ^ 23) with hsub | hnormal
  · obtain rfl : e = 0 := by
      by_contra hne
      exact absurd (he hne) (by omega)
    rw [if_pos (by omega)]
    omega
  rcases lt_or_eq_of_le hq with hlt | rfl
  · rw [if_neg (by omega), show (e * 2 ^ 23 + q) / 2 ^ 23 - 1 = e by omega,
      show 2 ^ 23 + (e * 2 ^ 23 + q) % 2 ^ 23 = q by omega]
  · rw [if_neg (by omega), show (e * 2 ^ 23 + 2 ^ 24) / 2 ^ 23 - 1 = e + 1 by omega,
      show 2 ^ 23 + (e * 2 ^ 23 + 2 ^ 24) % 2 ^ 23 = 2 ^ 23 by omega, pow_succ']
    omega

theorem magUnits_eq_mul_two_pow (v : Word) : ∃ c e : Nat, c < 2 ^ 24 ∧ magUnits v = c * 2 ^ e := by
  have hf : fracField v < 2 ^ 23 := (v.extractLsb' 0 23).isLt
  unfold magUnits
  split
  · exact ⟨fracField v, 0, by omega, by omega⟩
  · exact ⟨2 ^ 23 + fracField v, expField v - 1, by omega, rfl⟩

theorem getLsbD_zero_packSign (neg : Bool) {mag : Nat} (h : mag < 2 ^ 31) :
    (packSign neg mag).getLsbD 0 = decide (mag % 2 = 1) := by
  rw [BitVec.getLsbD, packSign_toNat neg h, Nat.testBit_zero, decide_eq_decide]
  split <;> omega

/-- Rounding without overflow keeps the rounded significand at its scale. -/
theorem magUnits_packSign_roundMag (neg : Bool) {m k : Nat} (h : roundMag m k < 0x7F800000) :
    magUnits (packSign neg (roundMag m k)) * 2 ^ k = roundedSignificand m k * 2 ^ dropBits m k := by
  have heq := roundMag_of_lt_inf h
  rw [heq, magUnits_packSign neg (roundedSignificand_le m k) (fun he => le_roundedSignificand (by omega)) (by omega),
    mul_assoc, ← pow_add, Nat.sub_add_cancel (le_dropBits m k)]

theorem roundMag_mod_two {m k : Nat} (h : roundMag m k < 0x7F800000) :
    roundMag m k % 2 = roundedSignificand m k % 2 := by
  rw [roundMag_of_lt_inf h]
  omega

theorem isFinite_packSign (neg : Bool) {mag : Nat} (h : mag < 0x7F800000) : isFinite (packSign neg mag) = true := by
  rw [isFinite, expField_packSign neg (by omega), bne_iff_ne]
  omega

/-! ## Signed values -/

/-- `x` with its sign changed where `neg` says so. -/
def flipSign (neg : Bool) (x : ℤ) : ℤ :=
  if neg then -x else x

theorem units_eq_flipSign (v : Word) : units v = flipSign (signBit v) (magUnits v) :=
  rfl

theorem flipSign_flipSign (neg : Bool) (x : ℤ) : flipSign neg (flipSign neg x) = x := by
  cases neg <;> simp [flipSign]

theorem flipSign_mul (neg : Bool) (x y : ℤ) : flipSign neg (x * y) = flipSign neg x * y := by
  cases neg <;> simp [flipSign]

theorem flipSign_injective (neg : Bool) : Function.Injective (flipSign neg) :=
  Function.Involutive.injective (flipSign_flipSign neg)

theorem natAbs_flipSign (neg : Bool) (x : ℤ) : (flipSign neg x).natAbs = x.natAbs := by
  cases neg <;> simp [flipSign]

theorem natAbs_sub_flipSign (neg : Bool) (x y : ℤ) :
    (x - flipSign neg y).natAbs = (flipSign neg x - y).natAbs := by
  cases neg <;> simp only [flipSign, Bool.false_eq_true, if_true, if_false]
  omega

/-- Seen from the side of either sign, a value is not positive or has at most 24 significant bits. -/
theorem flipSign_units_mul (neg : Bool) (v : Word) (k : Nat) :
    flipSign neg (units v * 2 ^ k) ≤ 0 ∨
      ∃ c e : Nat, c < 2 ^ 24 ∧ flipSign neg (units v * 2 ^ k) = (c * 2 ^ (e + k) : Nat) := by
  obtain ⟨c, e, hc, hv⟩ := magUnits_eq_mul_two_pow v
  rw [flipSign_mul, units_eq_flipSign]
  by_cases hs : neg = signBit v
  · refine .inr ⟨c, e, hc, ?_⟩
    rw [hs, flipSign_flipSign, hv, pow_add]
    push_cast
    ring
  · refine .inl (mul_nonpos_of_nonpos_of_nonneg ?_ (by positivity))
    cases neg <;> cases h : signBit v <;> simp_all [flipSign]

/-- No finite value is nearer than the packed rounded magnitude is, and a tie is won by the even pattern. -/
theorem units_packSign_nearest (neg : Bool) {m k : Nat} (h : roundMag m k < 0x7F800000) (u : Word) :
    (units (packSign neg (roundMag m k)) * 2 ^ k - flipSign neg m).natAbs ≤
      (units u * 2 ^ k - flipSign neg m).natAbs ∧
    (units u ≠ units (packSign neg (roundMag m k)) →
      (units (packSign neg (roundMag m k)) * 2 ^ k - flipSign neg m).natAbs =
        (units u * 2 ^ k - flipSign neg m).natAbs →
      (packSign neg (roundMag m k)).getLsbD 0 = false) := by
  have hv : flipSign neg (units (packSign neg (roundMag m k)) * 2 ^ k) =
      (roundedSignificand m k * 2 ^ dropBits m k : Nat) := by
    rw [flipSign_mul, units_eq_flipSign, signBit_packSign neg (roundMag_lt m k), flipSign_flipSign,
      ← magUnits_packSign_roundMag neg h]
    push_cast
    rfl
  obtain ⟨hle, htie⟩ := roundedSignificand_nearest m k (flipSign_units_mul neg u k)
  rw [getLsbD_zero_packSign neg (roundMag_lt m k), decide_eq_false_iff_not, roundMag_mod_two h,
    natAbs_sub_flipSign, natAbs_sub_flipSign, hv]
  refine ⟨hle, fun hne heq => ?_⟩
  have hne' : flipSign neg (units u * 2 ^ k) ≠ (roundedSignificand m k * 2 ^ dropBits m k : Nat) := fun hu =>
    hne (mul_right_cancel₀ (by positivity) (flipSign_injective neg (hu.trans hv.symm)))
  have heven := htie hne' heq
  omega

/-! ## The reals -/

/-- A distance to an exact result, counted in its units of `2^-(149+k)`. -/
theorem abs_realOf_sub (u : Word) (x : ℤ) (k : Nat) :
    |realOf u - x / 2 ^ (149 + k)| = ((units u * 2 ^ k - x).natAbs : ℝ) / 2 ^ (149 + k) := by
  have hsub : realOf u - x / 2 ^ (149 + k) = ((units u * 2 ^ k - x : ℤ) : ℝ) / 2 ^ (149 + k) := by
    rw [realOf, pow_add]
    push_cast
    field_simp
  rw [hsub, abs_div, abs_of_pos (show (0 : ℝ) < 2 ^ (149 + k) by positivity), Nat.cast_natAbs, Int.cast_abs]

theorem realOf_eq_of_units_eq {u v : Word} (h : units u = units v) : realOf u = realOf v := by
  rw [realOf, realOf, h]

theorem realOf_negate (v : Word) : realOf (negate v) = -realOf v := by
  rw [realOf, realOf, units_negate]
  push_cast
  ring

theorem abs_flipSign_div (neg : Bool) (m k : Nat) : |(flipSign neg m : ℝ) / 2 ^ (149 + k)| = m / 2 ^ (149 + k) := by
  rw [abs_div, abs_of_pos (show (0 : ℝ) < 2 ^ (149 + k) by positivity), ← Int.cast_abs, ← Nat.cast_natAbs,
    natAbs_flipSign, Int.natAbs_natCast]

theorem eq_decide_flipSign_div_neg (neg : Bool) {m k : Nat} (h : (flipSign neg m : ℝ) / 2 ^ (149 + k) ≠ 0) :
    neg = decide ((flipSign neg m : ℝ) / 2 ^ (149 + k) < 0) := by
  have hpow : (0 : ℝ) < 2 ^ (149 + k) := by positivity
  have hne : flipSign neg m ≠ 0 := fun h0 => h (by rw [h0]; simp)
  rw [Bool.eq_iff_iff, decide_eq_true_iff, div_lt_iff₀ hpow, zero_mul, Int.cast_lt_zero]
  cases neg
  · simp [flipSign]
  · simpa [flipSign, Nat.pos_iff_ne_zero] using hne

theorem overflowBound_le_iff (m k : Nat) :
    overflowBound ≤ (m : ℝ) / 2 ^ (149 + k) ↔ (2 ^ 25 - 1) * 2 ^ (252 + k) ≤ m := by
  have hscale : overflowBound * 2 ^ (149 + k) = (((2 ^ 25 - 1) * 2 ^ (252 + k) : Nat) : ℝ) := by
    rw [overflowBound, mul_assoc, ← pow_add, show 103 + (149 + k) = 252 + k by omega]
    push_cast
    norm_num
  rw [le_div_iff₀ (by positivity), hscale, Nat.cast_le]

/-- The one rounding behind a sum, a difference and a product: packing the rounded magnitude of an exact result of
`m` units of `2^-(149+k)` gives its correctly rounded value. -/
theorem isRounded_packSign_roundMag (neg : Bool) (m k : Nat) :
    IsRounded ((flipSign neg m : ℝ) / 2 ^ (149 + k)) (packSign neg (roundMag m k)) := by
  have habs := abs_flipSign_div neg m k
  refine ⟨fun hne => ?_, fun hlt => ?_, fun hle => ?_⟩
  · rw [signBit_packSign neg (roundMag_lt m k), ← eq_decide_flipSign_div_neg neg hne]
  · have hfin : roundMag m k < 0x7F800000 := by
      rw [habs] at hlt
      refine lt_of_le_of_ne (roundMag_le m k) fun h => ?_
      exact absurd ((overflowBound_le_iff m k).2 ((roundMag_eq_inf_iff m k).1 h)) (not_le.2 hlt)
    refine ⟨isFinite_packSign neg hfin, fun u _ => ?_⟩
    obtain ⟨hle, htie⟩ := units_packSign_nearest neg hfin u
    rw [abs_realOf_sub, abs_realOf_sub]
    refine ⟨by gcongr, fun hne heq => htie (fun h => hne (realOf_eq_of_units_eq h)) ?_⟩
    exact_mod_cast (div_left_inj' (by positivity)).1 heq
  · rw [habs, overflowBound_le_iff, ← roundMag_eq_inf_iff] at hle
    rw [hle]
    exact isInf_packSign_inf neg

/-! ## The primitives on finite operands -/

theorem realOf_add (a b : Word) : realOf a + realOf b = ((units a + units b : ℤ) : ℝ) / 2 ^ (149 + 0) := by
  rw [realOf, realOf]
  push_cast
  ring

theorem flipSign_natAbs (x : ℤ) : flipSign (decide (x < 0)) x.natAbs = x := by
  by_cases h : x < 0 <;> simp only [flipSign, h, decide_true, decide_false, Bool.false_eq_true, if_true, if_false] <;>
    omega

/-- An exact zero sum is the rounding of 0 with the sign that the operands give it. -/
theorem addSigned_isRounded (op : FloatOp) (a b : Word) {b' : Word} (ha : isFinite a = true)
    (hb : isFinite b' = true) : IsRounded (realOf a + realOf b') (addSigned op a b b') := by
  rw [addSigned_of_finite op a b ha hb, realOf_add]
  split
  · next h =>
    rw [h]
    have hzero := isRounded_packSign_roundMag (signBit a && signBit b') 0 0
    rw [roundMag_zero] at hzero
    simpa [flipSign] using hzero
  · have hsum := isRounded_packSign_roundMag (decide (units a + units b' < 0)) (units a + units b').natAbs 0
    rwa [flipSign_natAbs] at hsum

theorem realOf_mul (a b : Word) :
    realOf a * realOf b =
      (flipSign (signBit a != signBit b) (magUnits a * magUnits b : Nat) : ℝ) / 2 ^ (149 + 149) := by
  have hunits : flipSign (signBit a != signBit b) (magUnits a * magUnits b : Nat) = units a * units b := by
    rw [units_eq_flipSign, units_eq_flipSign]
    cases signBit a <;> cases signBit b <;> simp [flipSign]
  rw [hunits, realOf, realOf, pow_add]
  push_cast
  ring

/-- Settles O37: both are one signed sum, and an exact sum of units is rounded once. -/
theorem sumsAndDifferencesAreCorrectlyRounded : Obligations.SumsAndDifferencesAreCorrectlyRounded := by
  unfold Obligations.SumsAndDifferencesAreCorrectlyRounded
  intro a b ha hb
  have hnb : isFinite (negate b) = true := by rwa [isFinite_negate]
  refine ⟨addSigned_isRounded .add a b ha hb, ?_⟩
  rw [sub_eq_add_neg, ← realOf_negate]
  exact addSigned_isRounded .sub a b ha hnb

/-- Settles O38: the exact product is an integer number of units of 2^-298, rounded once. -/
theorem productsAreCorrectlyRounded : Obligations.ProductsAreCorrectlyRounded := by
  unfold Obligations.ProductsAreCorrectlyRounded
  intro a b ha hb
  rw [fmul_of_finite ha hb, realOf_mul]
  exact isRounded_packSign_roundMag _ _ 149

end Sys2Proof.Machine
end

section
/-! PROOFS. Everything a host write can do, said once (20_memory R82, R84; 45_coefficients R250 to R252): `WriteEffect`
lists the states it can leave before the bus answers, and `writeAccess_effect` says that it leaves no other. -/

namespace Sys2Proof.Machine

/-- The states that a write of `v` to `off` can leave, the bus answer aside. -/
inductive WriteEffect (off : BitVec 17) (v : Word) (s : State) : State → Prop where
  | ignored : WriteEffect off v s s
  | acknowledged : WriteEffect off v s (acknowledge v s)
  | dropped (c : ErrCode) (code : c ≠ .none) : WriteEffect off v s (raiseError c (offsetInfo off) s)
  | latched (idle : s.cmdLatch = none) : WriteEffect off v s { s with cmdLatch := some v }
  | ctrl (unlocked : s.active = .comb → ctrlVarField v = s.combVar) : WriteEffect off v s (setCtrl v s)
  | stored (r : Reg) (unlocked : ownerOf r ≠ some s.active) : WriteEffect off v s (storeReg r v s)
  | buffered (i : Nat) (inside : i < s.blockSize) : WriteEffect off v s { s with mem := writeBuf s.mem i v }

theorem writeCtrl_effect (off : BitVec 17) (v : Word) (s : State) : WriteEffect off v s (writeCtrl off v s) := by
  unfold writeCtrl
  split
  · exact .dropped _ (by decide)
  · next hlock => exact .ctrl fun hc => not_not.1 fun hv => hlock ⟨hc, hv⟩

theorem writeRegIdle_effect (off : BitVec 17) (r : Reg) (v : Word) {s : State} (hl : s.cmdLatch = none) :
    WriteEffect off v s (writeRegIdle off r v s) := by
  unfold writeRegIdle
  split
  · exact .latched hl
  · exact .acknowledged
  · exact writeCtrl_effect off v s
  · split
    · exact .dropped _ (by decide)
    · next hfree => exact .stored r hfree

theorem writeIdle_effect (off : BitVec 17) (v : Word) {s : State} (hl : s.cmdLatch = none) :
    WriteEffect off v s (writeIdle off v s) := by
  unfold writeIdle
  split
  · exact writeRegIdle_effect off _ v hl
  · exact .ignored
  · next i hi =>
    obtain ⟨hlow, hhigh, rfl⟩ := targetOf_eq_buffer hi
    exact .buffered _ (by omega)
  · exact .ignored

theorem writeBusy_effect (off : BitVec 17) (v : Word) (s : State) : WriteEffect off v s (writeBusy off v s) := by
  unfold writeBusy
  split
  · exact .acknowledged
  · exact .dropped _ (by decide)

/-- Every write is answered OKAY over one of the listed effects. -/
theorem writeAccess_effect (off : BitVec 17) (v : Word) (s : State) :
    ∃ u, WriteEffect off v s u ∧ writeAccess off v s = respond .okay u := by
  refine ⟨_, ?_, rfl⟩
  split
  · exact writeBusy_effect off v s
  · next hl => exact writeIdle_effect off v (by simpa using hl)

end Sys2Proof.Machine
end

section
/-! PROOFS. The machine invariant (10_state R34 to R37, R53, R58; 20_memory R80, R92): each named operation keeps it,
hence every command, every bus access and every step does. -/

namespace Sys2Proof.Machine

/-! ## The buffer's part of the invariant -/

/-- What MachineInv asks of the buffer of a CORE of `n` words. -/
structure BufferInv (n : Nat) (m : Memory) : Prop where
  wf : Memory.wf m
  inside : ∀ c ∈ m, bufBase ≤ c.1 ∧ c.1 < bufBase + 4 * n
  words : ∀ i, (readBuf m i).isSome ∨ ∀ k, k < 4 → readByte m (bufAddr i + k) = none

theorem bufferInv_nil (n : Nat) : BufferInv n [] :=
  ⟨List.Pairwise.nil, fun _ hc => absurd hc List.not_mem_nil, fun _ => .inr fun _ _ => rfl⟩

theorem BufferInv.writeBuf {n i : Nat} {m : Memory} (h : BufferInv n m) (v : Word) (hi : i < n) :
    BufferInv n (writeBuf m i v) where
  wf := writeBuf_wf i v h.wf
  inside c hc := by
    rcases mem_writeWord hc with hnew | hold
    · unfold bufAddr at hnew
      omega
    · exact h.inside c hold
  words j := by
    by_cases hj : j = i
    · subst hj
      exact .inl (by simp)
    · rw [readBuf_writeBuf_of_ne m v hj]
      refine (h.words j).imp_right fun hnone k hk => ?_
      rw [Machine.writeBuf, readByte_writeWord_of_outside m v (by unfold bufAddr; omega)]
      exact hnone k hk

theorem BufferInv.writeBlock {n i : Nat} {m : Memory} {ys : List Word} (h : BufferInv n m)
    (hi : i + ys.length ≤ n) : BufferInv n (writeBlock m i ys) := by
  induction ys generalizing m i with
  | nil => exact h
  | cons y rest ih =>
    rw [List.length_cons] at hi
    exact ih (h.writeBuf y (by omega)) (by omega)

theorem MachineInv.buffer {s : State} (h : MachineInv s) : BufferInv s.blockSize s.mem :=
  ⟨h.mem_wf, h.mem_inside, h.mem_words⟩

theorem MachineInv.withBuffer {s : State} {m : Memory} (h : MachineInv s) (hm : BufferInv s.blockSize m) :
    MachineInv { s with mem := m } :=
  { h with mem_wf := hm.wf, mem_inside := hm.inside, mem_words := hm.words }

/-! ## Resets -/

/-- The reset values meet the invariant, over any buffer that does (10_state R60). -/
theorem machineInv_resetRegisters {s : State} (hpos : 1 ≤ s.blockSize) (hle : s.blockSize ≤ 16384)
    (hb : BufferInv s.blockSize s.mem) : MachineInv (resetRegisters s) where
  blockSize_pos := hpos
  blockSize_le := hle
  mem_wf := hb.wf
  mem_inside := hb.inside
  mem_words := hb.words
  int_clear _ := rfl
  sp_clear _ := rfl
  bq_clear _ := rfl
  comb_clear _ := rfl
  nonempty_open := by simp [State.reset]
  seeded_iff := by simp [State.reset]
  err_clear _ := ⟨rfl, rfl⟩
  err_code := by simp [State.reset]
  reset_idle _ := rfl

/-- Settles O57: the state after reset is its own soft reset, its buffer is empty and BLOCK_SIZE in range. -/
theorem resetMeetsTheInvariant : Obligations.ResetMeetsTheInvariant := by
  unfold Obligations.ResetMeetsTheInvariant
  exact machineInv_resetRegisters (s := State.reset) (Nat.succ_pos _) Config.blockSizeLessOne.isLt (bufferInv_nil _)

theorem MachineInv.resetRegisters {s : State} (h : MachineInv s) : MachineInv (resetRegisters s) :=
  machineInv_resetRegisters h.blockSize_pos h.blockSize_le h.buffer

theorem MachineInv.pinReset {s : State} (h : MachineInv s) : MachineInv (pinReset s) :=
  { h.resetRegisters.withBuffer (bufferInv_nil _) with reset_idle := fun _ => rfl }

theorem MachineInv.pinRelease {s : State} (h : MachineInv s) : MachineInv (pinRelease s) :=
  { h with reset_idle := by simp }

/-! ## Errors, the bus answer and the loader -/

theorem MachineInv.complete {s : State} (h : MachineInv s) : MachineInv (complete s) :=
  { h with reset_idle := fun _ => rfl }

theorem MachineInv.withAgenda {s : State} (h : MachineInv s) (es : List Event) : MachineInv { s with agenda := es } :=
  { h with }

theorem MachineInv.recordFault {s : State} (h : MachineInv s) (e : Fault) : MachineInv (recordFault e s) :=
  { h with }

theorem MachineInv.respond {s : State} (h : MachineInv s) (r : Response) : MachineInv (respond r s) :=
  { h with }

theorem MachineInv.setCtrl {s : State} (h : MachineInv s) (v : Word) : MachineInv (setCtrl v s) :=
  { h with }

theorem MachineInv.storeReg {s : State} (h : MachineInv s) (r : Reg) (v : Word) : MachineInv (storeReg r v s) := by
  cases r <;> exact { h with }

theorem MachineInv.latch {s : State} (h : MachineInv s) (w : Word) (hr : s.rstN = true) :
    MachineInv { s with cmdLatch := some w } :=
  { h with reset_idle := fun hlow => absurd (hr.symm.trans hlow) (by decide) }

/-- A recorded error has a code, and the first one's stays (60_exceptions R280, R285). -/
theorem MachineInv.raiseError {s : State} (h : MachineInv s) {code : ErrCode} (info : Word) (hc : code ≠ .none) :
    MachineInv (raiseError code info s) := by
  unfold Machine.raiseError
  split
  · exact { h with }
  · exact { h with err_clear := fun hf => Bool.noConfusion hf, err_code := fun _ => hc }

/-- Clearing ERR clears ERRCODE and ERRINFO with it (10_state R34). -/
theorem MachineInv.acknowledge {s : State} (h : MachineInv s) (v : Word) : MachineInv (acknowledge v s) :=
  { h with
    err_clear := by
      rw [acknowledge_err, acknowledge_errCode, acknowledge_errInfo]
      cases v.getLsbD 2 with
      | true => simp
      | false => simpa using h.err_clear
    err_code := by
      rw [acknowledge_err, acknowledge_errCode]
      cases v.getLsbD 2 with
      | true => simp
      | false => simpa using h.err_code }

/-! ## The invocation -/

theorem MachineInv.not_seeded {s : State} (h : MachineInv s) (ha : s.active ≠ .sp) : s.spSeeded = false :=
  Bool.eq_false_iff.2 fun hs => ha (h.seeded_iff.1 hs).1

/-- With no invocation open every kernel is at its reset state, so INIT_k has nothing to clear (10_state R58). -/
theorem MachineInv.openInvocation_eq {s : State} (h : MachineInv s) (ha : s.active = .none) (k : Kernel) :
    openInvocation k s = { s with active := k, blkcnt := 0#32, nonempty := false } := by
  have hint := h.int_clear (by simp [ha])
  have hsp := h.sp_clear (by simp [ha])
  have hbq := h.bq_clear (by simp [ha])
  have hcomb := h.comb_clear (by simp [ha])
  have hseed := h.not_seeded (by simp [ha])
  cases k <;> simp [Machine.openInvocation, clearKernel, hint, hsp, hbq, hcomb, hseed]

/-- The close leaves every kernel at its reset state: it discards the open one, the others were there (10_state R58). -/
theorem MachineInv.closeInvocation_eq {s : State} (h : MachineInv s) :
    closeInvocation s =
      { s with active := .none, nonempty := false, spSeeded := false, intY1 := 0#32, spY1 := 0#32,
               bqHist := BqHist.zero, combHist := CombHist.zero } := by
  have hint := h.int_clear
  have hsp := h.sp_clear
  have hbq := h.bq_clear
  have hcomb := h.comb_clear
  have hseed := h.not_seeded
  cases ha : s.active <;> simp_all [Machine.closeInvocation, clearKernel]

theorem MachineInv.openInvocation {s : State} (h : MachineInv s) (ha : s.active = .none) (k : Kernel) :
    MachineInv (openInvocation k s) := by
  rw [h.openInvocation_eq ha]
  exact
    { h with
      int_clear := fun _ => h.int_clear (by simp [ha])
      sp_clear := fun _ => h.sp_clear (by simp [ha])
      bq_clear := fun _ => h.bq_clear (by simp [ha])
      comb_clear := fun _ => h.comb_clear (by simp [ha])
      nonempty_open := by simp
      seeded_iff := by simp [h.not_seeded (by simp [ha])] }

theorem MachineInv.closeInvocation {s : State} (h : MachineInv s) : MachineInv (closeInvocation s) := by
  rw [h.closeInvocation_eq]
  exact
    { h with
      int_clear := fun _ => rfl
      sp_clear := fun _ => rfl
      bq_clear := fun _ => rfl
      comb_clear := fun _ => rfl
      nonempty_open := by simp
      seeded_iff := by simp }

/-! ## A block that ran: the active kernel's history and the buffer -/

/-- The buffer after a RUN over the whole block (20_memory R87). -/
theorem MachineInv.withScan {H : Type} {s : State} (h : MachineInv s) (f : H → Word → H × Word) (y : H)
    {xs : List Word} (hl : xs.length = s.blockSize) :
    MachineInv { s with mem := writeBlock s.mem 0 (scan f y xs).2 } :=
  h.withBuffer (h.buffer.writeBlock (by simp [hl]))

theorem MachineInv.ranInt {s : State} (h : MachineInv s) (ha : s.active = .int) (y : Word) :
    MachineInv (countBlock { s with intY1 := y }) :=
  { h with
    int_clear := fun hn => absurd ha hn
    nonempty_open := fun _ => by simp [ha]
    seeded_iff := by simp [ha, h.not_seeded] }

theorem MachineInv.ranSp {s : State} (h : MachineInv s) (ha : s.active = .sp) (y : Word) :
    MachineInv (countBlock { s with spY1 := y, spSeeded := true }) :=
  { h with
    sp_clear := fun hn => absurd ha hn
    nonempty_open := fun _ => by simp [ha]
    seeded_iff := by simp [ha] }

theorem MachineInv.ranBq {s : State} (h : MachineInv s) (ha : s.active = .bq) (y : BqHist) :
    MachineInv (countBlock { s with bqHist := y }) :=
  { h with
    bq_clear := fun hn => absurd ha hn
    nonempty_open := fun _ => by simp [ha]
    seeded_iff := by simp [ha, h.not_seeded] }

theorem MachineInv.ranComb {s : State} (h : MachineInv s) (ha : s.active = .comb) (y : CombHist) :
    MachineInv (countBlock { s with combHist := y }) :=
  { h with
    comb_clear := fun hn => absurd ha hn
    nonempty_open := fun _ => by simp [ha]
    seeded_iff := by simp [ha, h.not_seeded] }

/-! ## The core's turn -/

theorem MachineInv.exec {i : Instr} {s t : State} (h : MachineInv s) (ht : exec i s = .next t) : MachineInv t := by
  cases exec_answers ht with
  | failed c code => exact (h.raiseError _ code).complete
  | nop => exact h.complete
  | opened k idle _ => exact (h.openInvocation idle k).complete
  | ranInt xs active len _ => exact ((h.withScan intSample s.intY1 len).ranInt active _).complete
  | ranSp y0 xs active _ len _ => exact ((h.withScan (spSample s.spAlpha) y0 len).ranSp active _).complete
  | ranBq xs active len _ => exact ((h.withScan (bqSample s.bqCoeffs) s.bqHist len).ranBq active _).complete
  | ranComb xs active len _ =>
    exact ((h.withScan (combSample s.combVar s.combG1 s.combG2) s.combHist len).ranComb active _).complete
  | ranUnwritten k n _ _ _ _ => exact (h.recordFault _).complete
  | abortedIdle _ => exact h.complete
  | aborted _ => exact h.closeInvocation.complete
  | finished _ _ => exact h.closeInvocation.complete
  | finishedEmpty _ _ => exact (h.closeInvocation.raiseError _ (by decide)).complete
  | generatedSp _ _ => exact { h.complete with }
  | generatedBq _ _ => exact { h.complete with }
  | softReset => exact h.resetRegisters

theorem MachineInv.coreStep {s t : State} (h : MachineInv s) (ht : coreStep s = .next t) : MachineInv t := by
  rcases coreStep_next ht with ⟨_, rfl⟩ | ⟨_, _, rfl⟩ | ⟨w, _, _, hw⟩
  · exact h.pinReset
  · exact h
  · rcases performWord_next hw with ⟨_, _, rfl⟩ | ⟨i, _, hi⟩
    · exact (h.raiseError w (by decide)).complete
    · exact h.exec hi

/-! ## The host's accesses -/

theorem MachineInv.readAccess {s : State} (h : MachineInv s) (off : BitVec 17) : MachineInv (readAccess off s) := by
  obtain ⟨r, fs, d, hread⟩ := readAccess_eq off s
  rw [hread]
  exact { h with }

theorem MachineInv.writeEffect {off : BitVec 17} {v : Word} {s u : State} (h : MachineInv s) (hr : s.rstN = true)
    (hu : WriteEffect off v s u) : MachineInv u := by
  cases hu with
  | ignored => exact h
  | acknowledged => exact h.acknowledge v
  | dropped c code => exact h.raiseError _ code
  | latched _ => exact h.latch v hr
  | ctrl _ => exact h.setCtrl v
  | stored r _ => exact h.storeReg r v
  | buffered i inside => exact h.withBuffer (h.buffer.writeBuf v inside)

theorem MachineInv.busAccess {a : Access} {s t : State} (h : MachineInv s) (ht : busAccess a s = .next t) :
    MachineInv t := by
  obtain ⟨hr, ⟨_, rfl⟩ | ⟨_, ⟨off, n, _, rfl⟩ | ⟨off, n, v, _, rfl⟩⟩⟩ := busAccess_next ht
  · exact (h.recordFault _).respond _
  · exact h.readAccess off
  · obtain ⟨u, hu, hwrite⟩ := writeAccess_effect off v s
    rw [hwrite]
    exact (h.writeEffect hr hu).respond _

/-! ## The step -/

theorem MachineInv.perform {e : Event} {s t : State} (h : MachineInv s) (ht : perform e s = .next t) :
    MachineInv t := by
  cases e with
  | coreTurn => exact h.coreStep ht
  | access a => exact h.busAccess ht
  | assertReset => exact Host.Outcome.next.inj ht ▸ h.pinReset
  | releaseReset => exact Host.Outcome.next.inj ht ▸ h.pinRelease

/-- Settles O58: a step is the core's turn or an agenda entry, and each of these keeps the invariant. -/
theorem everyStepKeepsTheInvariant : Obligations.EveryStepKeepsTheInvariant := by
  unfold Obligations.EveryStepKeepsTheInvariant
  intro s t h ht
  rcases step_next ht with ⟨_, hcore⟩ | ⟨e, rest, _, he⟩
  · exact h.coreStep hcore
  · exact (h.withAgenda rest).perform he

end Sys2Proof.Machine
end

section
/-! PROOFS. The locks of the open invocation (10_state R57; 45_coefficients R250, R251, R257, R260): what changes a
coefficient finds its kernel closed, or closes it. -/

namespace Sys2Proof.Machine

/-- The registers that the kernel open in `s` owns are the same in `t` (10_state R57). -/
def OwnedKept (s t : State) : Prop :=
  (s.active = .sp → t.spAlpha = s.spAlpha) ∧
  (s.active = .bq → t.bqCoeffs = s.bqCoeffs) ∧
  (s.active = .comb → t.combG1 = s.combG1 ∧ t.combG2 = s.combG2 ∧ t.combVar = s.combVar)

theorem ownedKept_of_idle {s : State} (h : s.active = .none) (t : State) : OwnedKept s t := by
  simp [OwnedKept, h]

/-- No kernel's registers change, so the open one's do not. -/
theorem ownedKept_of_coefficients {s t : State} (hsp : t.spAlpha = s.spAlpha) (hbq : t.bqCoeffs = s.bqCoeffs)
    (hg1 : t.combG1 = s.combG1) (hg2 : t.combG2 = s.combG2) (hvar : t.combVar = s.combVar) : OwnedKept s t :=
  ⟨fun _ => hsp, fun _ => hbq, fun _ => ⟨hg1, hg2, hvar⟩⟩

theorem ownedKept_raiseError (code : ErrCode) (info : Word) (s : State) : OwnedKept s (raiseError code info s) :=
  ownedKept_of_coefficients (by simp) (by simp) (by simp) (by simp) (by simp)

theorem ownedKept_closeInvocation (s : State) : OwnedKept s (closeInvocation s) :=
  ownedKept_of_coefficients (by simp) (by simp) (by simp) (by simp) (by simp)

/-! ## The commands -/

/-- A command changes no owned register while the invocation stays open: SRST leaves none open, and each generator
runs only while its kernel is not the open one (45_coefficients R257, R260). -/
theorem ownedKept_exec {i : Instr} {s t : State} (h : exec i s = .next t) (ha : t.active = s.active) :
    OwnedKept s t := by
  cases exec_answers h with
  | failed c _ => exact ownedKept_raiseError c _ s
  | opened k idle _ => exact ownedKept_of_idle idle _
  | generatedSp unlocked _ => exact ⟨fun hsp => absurd hsp unlocked, fun _ => rfl, fun _ => ⟨rfl, rfl, rfl⟩⟩
  | generatedBq unlocked _ => exact ⟨fun _ => rfl, fun hbq => absurd hbq unlocked, fun _ => ⟨rfl, rfl, rfl⟩⟩
  | softReset => exact ownedKept_of_idle ha.symm _
  | aborted | finished => exact ownedKept_closeInvocation s
  | finishedEmpty opened _ => exact absurd ha.symm (by simpa using opened)
  | nop | ranInt | ranSp | ranBq | ranComb | ranUnwritten =>
    exact ownedKept_of_coefficients rfl rfl rfl rfl rfl
  | abortedIdle idle => exact ownedKept_of_idle idle _

theorem ownedKept_pinReset {s : State} (ha : (pinReset s).active = s.active) : OwnedKept s (pinReset s) :=
  ownedKept_of_idle ha.symm _

theorem ownedKept_coreStep {s t : State} (h : coreStep s = .next t) (ha : t.active = s.active) : OwnedKept s t := by
  rcases coreStep_next h with ⟨_, rfl⟩ | ⟨_, _, rfl⟩ | ⟨w, _, _, hw⟩
  · exact ownedKept_pinReset ha
  · exact ownedKept_of_coefficients rfl rfl rfl rfl rfl
  · rcases performWord_next hw with ⟨_, _, rfl⟩ | ⟨i, _, hi⟩
    · exact ownedKept_raiseError _ w s
    · exact ownedKept_exec hi ha

/-! ## The host's accesses -/

theorem storeReg_spAlpha_of_not_owned {r : Reg} (v : Word) (s : State) (h : ownerOf r ≠ some .sp) :
    (storeReg r v s).spAlpha = s.spAlpha := by
  cases r with
  | spAlpha => exact absurd rfl h
  | _ => rfl

theorem storeReg_bqCoeffs_of_not_owned {r : Reg} (v : Word) (s : State) (h : ownerOf r ≠ some .bq) :
    (storeReg r v s).bqCoeffs = s.bqCoeffs := by
  cases r with
  | b0 | b1 | b2 | a1 | a2 => exact absurd rfl h
  | _ => rfl

theorem storeReg_combGains_of_not_owned {r : Reg} (v : Word) (s : State) (h : ownerOf r ≠ some .comb) :
    (storeReg r v s).combG1 = s.combG1 ∧ (storeReg r v s).combG2 = s.combG2 := by
  cases r with
  | combG1 | combG2 => exact absurd rfl h
  | _ => exact ⟨rfl, rfl⟩

/-- A plain write changes an owned register only for another kernel than the open one (45_coefficients R250). -/
theorem ownedKept_storeReg {r : Reg} {s : State} (v : Word) (h : ownerOf r ≠ some s.active) :
    OwnedKept s (storeReg r v s) := by
  refine ⟨fun ha => ?_, fun ha => ?_, fun ha => ?_⟩ <;> rw [ha] at h
  · exact storeReg_spAlpha_of_not_owned v s h
  · exact storeReg_bqCoeffs_of_not_owned v s h
  · obtain ⟨hg1, hg2⟩ := storeReg_combGains_of_not_owned v s h
    exact ⟨hg1, hg2, storeReg_combVar r v s⟩

theorem ownedKept_writeEffect {off : BitVec 17} {v : Word} {s u : State} (h : WriteEffect off v s u) :
    OwnedKept s u := by
  cases h with
  | dropped c _ => exact ownedKept_raiseError c _ s
  | ctrl unlocked => exact ⟨fun _ => rfl, fun _ => rfl, fun hc => ⟨rfl, rfl, unlocked hc⟩⟩
  | stored r unlocked => exact ownedKept_storeReg v unlocked
  | ignored | acknowledged | latched | buffered =>
    exact ownedKept_of_coefficients rfl rfl rfl rfl rfl

theorem ownedKept_busAccess {a : Access} {s t : State} (h : busAccess a s = .next t) : OwnedKept s t := by
  obtain ⟨_, ⟨_, rfl⟩ | ⟨_, ⟨off, n, _, rfl⟩ | ⟨off, n, v, _, rfl⟩⟩⟩ := busAccess_next h
  · exact ownedKept_of_coefficients rfl rfl rfl rfl rfl
  · obtain ⟨r, fs, d, hread⟩ := readAccess_eq off s
    rw [hread]
    exact ownedKept_of_coefficients rfl rfl rfl rfl rfl
  · obtain ⟨u, hu, hwrite⟩ := writeAccess_effect off v s
    rw [hwrite]
    have hkept : OwnedKept s u := ownedKept_writeEffect hu
    exact hkept

/-! ## The step -/

theorem ownedKept_perform {e : Event} {s t : State} (h : perform e s = .next t) (ha : t.active = s.active) :
    OwnedKept s t := by
  cases e with
  | coreTurn => exact ownedKept_coreStep h ha
  | access a => exact ownedKept_busAccess h
  | assertReset =>
    obtain rfl := Host.Outcome.next.inj h
    exact ownedKept_pinReset ha
  | releaseReset =>
    obtain rfl := Host.Outcome.next.inj h
    exact ownedKept_of_coefficients rfl rfl rfl rfl rfl

/-- Settles O59: a step is the core's turn or an agenda entry, and each of these keeps what the open kernel owns. -/
theorem ownedRegistersAreLocked : Obligations.OwnedRegistersAreLocked := by
  unfold Obligations.OwnedRegistersAreLocked
  intro s t h ha
  rcases step_next h with ⟨_, hcore⟩ | ⟨e, rest, _, he⟩
  · exact ownedKept_coreStep hcore ha
  · exact ownedKept_perform (s := { s with agenda := rest }) he ha

end Sys2Proof.Machine
end

section
/-! PROOFS. What a host reads and writes while the CORE is idle, and STATUS (10_state R31 to R35; 20_memory R82, R84,
R85): each access is one equation, by the address map and the rule of the target it leads to. -/

namespace Sys2Proof.Machine

/-! ## Idle reads -/

theorem readRegAccess_of_idle {s : State} (r : Reg) (hl : s.cmdLatch = none) :
    readRegAccess r s = respond (.data (readReg s r)) s := by
  simp [readRegAccess, hl]

theorem busAccess_read_reg_of_idle {s : State} (r : Reg) (hr : s.rstN = true) (hl : s.cmdLatch = none) :
    busAccess (.read (BitVec.ofNat 17 (regOffset r)) 4) s = .next { s with resp := .data (readReg s r) } := by
  rw [busAccess_read_reg r hr, readRegAccess_of_idle r hl]
  rfl

/-- The table's rows are what each register reads (10_state R31). -/
theorem readReg_of_registerTable (s : State) : ∀ p ∈ registerTable s, readReg s p.1 = p.2.2 := by
  simp [registerTable, readReg, Config.identity]

/-- The table's rows stand at their registers' offsets (10_state R31). -/
theorem regOffset_of_registerTable (s : State) : ∀ p ∈ registerTable s, regOffset p.1 = p.2.1 := by
  simp [registerTable, regOffset]

/-- Settles O48: a read goes where the address map leads, and each target answers its value while idle. -/
theorem idleReadsReturnTheState : Obligations.IdleReadsReturnTheState := by
  unfold Obligations.IdleReadsReturnTheState
  refine ⟨readReg_of_registerTable, fun s hr hl hb => ⟨fun p hp => ?_, fun r => ?_, fun k hk => ?_,
    fun i w hi hw => ?_⟩⟩
  · rw [← regOffset_of_registerTable s p hp, ← readReg_of_registerTable s p hp]
    exact busAccess_read_reg_of_idle p.1 hr hl
  · exact busAccess_read_reg_of_idle r hr hl
  · rw [busAccess_read_reserved hr hk]
    simp [readReservedAccess, hl, respond]
  · rw [busAccess_read_buf hr hi hb]
    simp [readBufferAccess, hw, hl, respond]

/-! ## Writes that nothing stores -/

/-- The registers a host cannot write: neither CTRL, STATUS and CMD nor one that stores a word (10_state R31). -/
def ReadOnly (r : Reg) : Prop :=
  r ∈ [Reg.id, Reg.errcode, Reg.errinfo, Reg.blksz, Reg.blkcnt, Reg.intY1, Reg.spY1, Reg.bqX1, Reg.bqX2, Reg.bqY1,
    Reg.bqY2, Reg.combX1, Reg.combX2, Reg.combX3, Reg.combX4, Reg.combX5, Reg.combY1, Reg.combY2, Reg.combY3]

theorem writeRegIdle_readOnly {r : Reg} (h : ReadOnly r) (off : BitVec 17) (v : Word) (s : State) :
    writeRegIdle off r v s = s := by
  revert r
  simp [ReadOnly, writeRegIdle, ownerOf, storeReg]

theorem busAccess_write_reg_of_idle {s : State} (r : Reg) (v : Word) (hr : s.rstN = true) (hl : s.cmdLatch = none) :
    busAccess (.write (BitVec.ofNat 17 (regOffset r)) 4 v) s =
      .next (respond .okay (writeRegIdle (BitVec.ofNat 17 (regOffset r)) r v s)) := by
  rw [busAccess_write_reg r v hr, hl]
  rfl

theorem busAccess_write_reg_of_busy {s : State} {w : Word} (r : Reg) (v : Word) (hr : s.rstN = true)
    (hl : s.cmdLatch = some w) :
    busAccess (.write (BitVec.ofNat 17 (regOffset r)) 4 v) s =
      .next (respond .okay (writeBusy (BitVec.ofNat 17 (regOffset r)) v s)) := by
  rw [busAccess_write_reg r v hr, hl]
  rfl

/-- Settles O53: no read-only register stores the word, and a reserved offset has nothing to store it in. -/
theorem readOnlyWritesAreIgnored : Obligations.ReadOnlyWritesAreIgnored := by
  unfold Obligations.ReadOnlyWritesAreIgnored
  refine fun s v hr hl => ⟨fun r hro => ?_, fun k hk => ?_⟩
  · rw [busAccess_write_reg_of_idle r v hr hl, writeRegIdle_readOnly hro]
    rfl
  · rw [busAccess_write_reserved v hr hk]
    simp [respond, hl]

/-! ## CMD and STATUS -/

/-- A busy write to a register other than STATUS is dropped (20_memory R84). -/
theorem writeBusy_reg_of_ne {r : Reg} (h : r ≠ .status) (v : Word) (s : State) :
    writeBusy (BitVec.ofNat 17 (regOffset r)) v s =
      raiseError .busyWrite (offsetInfo (BitVec.ofNat 17 (regOffset r))) s := by
  rw [writeBusy, toNat_regOffset, targetOf_reg, if_neg (by simpa using h)]

theorem writeBusy_status (v : Word) (s : State) :
    writeBusy (BitVec.ofNat 17 (regOffset .status)) v s = acknowledge v s := by
  rw [writeBusy, toNat_regOffset, targetOf_reg, if_pos rfl]

/-- Settles O5: CMD latches while idle and reads 0; while busy it is a register other than STATUS. -/
theorem cmdWriteLatchesOnlyWhileIdle : Obligations.CmdWriteLatchesOnlyWhileIdle := by
  unfold Obligations.CmdWriteLatchesOnlyWhileIdle
  refine fun s v w hr => ⟨fun hl => ⟨?_, ?_⟩, fun hl => ?_⟩
  · exact busAccess_write_reg_of_idle .cmd v hr hl
  · exact busAccess_read_reg_of_idle .cmd hr hl
  · refine (busAccess_write_reg_of_busy .cmd v hr hl).trans ?_
    rw [writeBusy_reg_of_ne (by decide)]
    rfl

/-- Settles O10: idle or busy, a write to STATUS is the acknowledgement. -/
theorem statusWriteClearsTheMarkedBits : Obligations.StatusWriteClearsTheMarkedBits := by
  unfold Obligations.StatusWriteClearsTheMarkedBits
  intro s v hr
  cases hl : s.cmdLatch with
  | none =>
    refine (busAccess_write_reg_of_idle .status v hr hl).trans ?_
    simp [respond, writeRegIdle, acknowledge, hl]
  | some w =>
    refine (busAccess_write_reg_of_busy .status v hr hl).trans ?_
    rw [writeBusy_status]
    simp [respond, acknowledge, hl]

/-! ## STATUS bit by bit -/

/-- The bits of STATUS, each a one-bit part of the concatenation (10_state R34). -/
theorem statusWord_bits (s : State) :
    (statusWord s).getLsbD 0 = s.busy ∧ (statusWord s).getLsbD 1 = s.done ∧ (statusWord s).getLsbD 2 = s.err ∧
    (statusWord s).getLsbD 3 = s.errOvf ∧ (statusWord s).getLsbD 4 = s.nonempty ∧
    (statusWord s).getLsbD 5 = s.spSeeded ∧ (statusWord s).getLsbD 16 = s.irq := by
  simp only [statusWord, BitVec.getLsbD_append]
  simp

/-- ACTIVE holds the code of the open kernel (10_state R34). -/
theorem statusWord_active (s : State) : (statusWord s).extractLsb' 8 3 = s.active.code := by
  unfold statusWord
  repeat rw [BitVec.extractLsb'_append_eq_of_le (by decide)]
  exact BitVec.extractLsb'_append_eq_right

/-- The reserved fields of STATUS are 0 (10_state R34). -/
theorem statusWord_reserved (s : State) :
    (statusWord s).extractLsb' 6 2 = 0#2 ∧ (statusWord s).extractLsb' 11 5 = 0#5 ∧
    (statusWord s).extractLsb' 17 15 = 0#15 := by
  unfold statusWord
  refine ⟨?_, ?_, ?_⟩ <;> repeat rw [BitVec.extractLsb'_append_eq_of_le (by decide)]
  · exact BitVec.extractLsb'_append_eq_right
  · exact BitVec.extractLsb'_append_eq_right
  · exact BitVec.extractLsb'_eq_self

/-- Settles O9, field by field. -/
theorem statusWordLayout : Obligations.StatusWordLayout := by
  unfold Obligations.StatusWordLayout
  intro s
  obtain ⟨hbusy, hdone, herr, hovf, hnonempty, hseeded, hirq⟩ := statusWord_bits s
  obtain ⟨hlow, hmid, hhigh⟩ := statusWord_reserved s
  have hactive := statusWord_active s
  refine ⟨hbusy, hdone, herr, hovf, hnonempty, hseeded, hlow, ?_, hmid, hirq, hhigh⟩
  rw [hactive]
  cases s.active <;> rfl
end Sys2Proof.Machine
end

section
/-! PROOFS. The two resets (10_state R60) and BLKCNT (10_state R39). -/

namespace Sys2Proof.Machine

/-! ## The resets -/

theorem ctrlWord_resetRegisters (s : State) : ctrlWord (resetRegisters s) = 0#32 := by
  simp [ctrlWord, CombVar.code, State.reset]

theorem statusWord_resetRegisters (s : State) : statusWord (resetRegisters s) = 0#32 := by
  simp [statusWord, State.irq, State.busy, Kernel.code, State.reset]

theorem errCodeWord_resetRegisters (s : State) : errCodeWord (resetRegisters s) = 0#32 := by
  simp [errCodeWord, ErrCode.code, State.reset]

/-- A reset leaves each register at its row of 10_state R60: CTRL, STATUS and ERRCODE are put together from their
fields, every other one is a field. -/
theorem registersAtReset_resetRegisters (s : State) : RegistersAtReset s.blockSize (resetRegisters s) := by
  unfold RegistersAtReset
  refine ⟨rfl, ctrlWord_resetRegisters s, statusWord_resetRegisters s, rfl, errCodeWord_resetRegisters s, ?_⟩
  repeat' apply And.intro
  all_goals rfl

/-- Settles O6: the state after reset, rst_n and SRST all hold the registers of one reset. -/
theorem resetLeavesTheTabledValues : Obligations.ResetLeavesTheTabledValues := by
  unfold Obligations.ResetLeavesTheTabledValues
  exact ⟨⟨registersAtReset_resetRegisters State.reset, rfl, rfl⟩, fun s =>
    ⟨⟨registersAtReset_resetRegisters s, fun _ => rfl, rfl⟩,
      resetRegisters s, rfl, registersAtReset_resetRegisters s, rfl, rfl⟩⟩

/-! ## BLKCNT -/

theorem initCommand_blkcnt {i : Instr} {k : Kernel} {s t : State} (h : initCommand i k s = .next t) :
    t.blkcnt = if s.active = .none then 0#32 else s.blkcnt := by
  rcases initCommand_next h with ⟨ha, rfl⟩ | ⟨ha, rfl⟩ <;> simp [ha]

/-- A loop's answer `r` in `s`: it ends exactly over a written block, and leaves the count to its RUN_k. -/
def LoopsOverBlock (s : State) (r : Except Nat State) : Prop :=
  (∀ u, r = .ok u → BlockWritten s ∧ u.blkcnt = s.blkcnt) ∧ (∀ n, r = .error n → ¬ BlockWritten s)

theorem loopsOverBlock_sweep {H : Type} {s : State} {f : H → Word → H × Word} {y : H} {g : H × Memory → State}
    (hg : ∀ p, (g p).blkcnt = s.blkcnt) : LoopsOverBlock s ((sweep f s.blockSize 0 y s.mem).map g) := by
  refine ⟨fun u hu => ?_, fun n hn => ?_⟩
  · obtain ⟨xs, hl, hm, rfl⟩ := sweep_map_ok hu
    exact ⟨blockWritten_of_holds hl hm, hg _⟩
  · obtain ⟨hlt, hfirst⟩ := sweep_map_error hn
    exact not_blockWritten_of_firstUnwritten hlt hfirst

theorem loopsOverBlock_int (s : State) : LoopsOverBlock s (intLoop s) :=
  loopsOverBlock_sweep fun _ => rfl

theorem loopsOverBlock_bq (s : State) : LoopsOverBlock s (bqLoop s) :=
  loopsOverBlock_sweep fun _ => rfl

theorem loopsOverBlock_comb (s : State) : LoopsOverBlock s (combLoop s) :=
  loopsOverBlock_sweep fun _ => rfl

/-- The seed reads BUF[0], which lies in the block because BLOCK_SIZE is at least 1. -/
theorem loopsOverBlock_sp {s : State} (hb : 1 ≤ s.blockSize) : LoopsOverBlock s (spLoop s) := by
  refine ⟨fun u hu => ?_, fun n hn => ?_⟩
  · obtain ⟨y0, xs, _, hl, hm, rfl⟩ := spLoop_ok hu
    exact ⟨blockWritten_of_holds hl hm, rfl⟩
  · obtain ⟨hlt, hfirst⟩ := spLoop_error hn
    exact not_blockWritten_of_firstUnwritten (by omega) hfirst

theorem runCommand_blkcnt {i : Instr} {k : Kernel} {loop : State → Except Nat State} {s t : State}
    (hloop : LoopsOverBlock s (loop s)) (h : runCommand i k loop s = .next t) :
    t.blkcnt = if s.active = k ∧ BlockWritten s then s.blkcnt + 1#32 else s.blkcnt := by
  obtain ⟨hok, herr⟩ := hloop
  rcases runCommand_next h with ⟨ha, rfl⟩ | ⟨ha, u, hu, rfl⟩ | ⟨ha, n, hn, rfl⟩
  · rw [if_neg fun hand => ha hand.1]
    simp
  · obtain ⟨hw, hcount⟩ := hok u hu
    rw [if_pos ⟨ha, hw⟩]
    simp [hcount]
  · rw [if_neg fun hand => herr n hn hand.2]
    simp

/-- What a write leaves of BLKCNT, before the bus answers. -/
theorem writeEffect_blkcnt {off : BitVec 17} {v : Word} {s u : State} (h : WriteEffect off v s u) :
    u.blkcnt = s.blkcnt := by
  cases h <;> simp

theorem busAccess_blkcnt {a : Access} {s t : State} (h : busAccess a s = .next t) : t.blkcnt = s.blkcnt := by
  obtain ⟨_, ⟨_, rfl⟩ | ⟨_, ⟨off, n, _, rfl⟩ | ⟨off, n, v, _, rfl⟩⟩⟩ := busAccess_next h
  · simp
  · obtain ⟨r, fs, d, hread⟩ := readAccess_eq off s
    rw [hread]
  · obtain ⟨u, hu, hwrite⟩ := writeAccess_effect off v s
    rw [hwrite, respond_blkcnt]
    exact writeEffect_blkcnt hu

/-- A command that is no INIT, no RUN and no SRST keeps BLKCNT (10_state R39). -/
theorem exec_blkcnt_of_mem {i : Instr} {s t : State} (hi : i ∈ [Instr.nop, .finish, .abort, .genSp, .genBq])
    (h : exec i s = .next t) : t.blkcnt = s.blkcnt := by
  cases exec_answers h with
  | opened k _ opens => fin_cases hi <;> simp [Opens] at opens
  | ranInt | ranSp | ranBq | ranComb | softReset => simp at hi
  | _ => simp

/-- Settles O21: the templates of INIT_k and RUN_k count, the resets clear, and nothing else touches BLKCNT. -/
theorem blkcntCountsSuccessfulRuns : Obligations.BlkcntCountsSuccessfulRuns := by
  unfold Obligations.BlkcntCountsSuccessfulRuns
  refine ⟨fun i s t hb h => ?_, fun a s t => busAccess_blkcnt, fun s => ⟨rfl, rfl, rfl⟩⟩
  cases i with
  | initInt => exact initCommand_blkcnt h
  | initSp => exact initCommand_blkcnt h
  | initBq => exact initCommand_blkcnt h
  | initComb => exact initCommand_blkcnt h
  | runInt => exact runCommand_blkcnt (loopsOverBlock_int s) h
  | runSp => exact runCommand_blkcnt (loopsOverBlock_sp hb) h
  | runBq => exact runCommand_blkcnt (loopsOverBlock_bq s) h
  | runComb => exact runCommand_blkcnt (loopsOverBlock_comb s) h
  | srst => exact Host.Outcome.next.inj h ▸ rfl
  | nop => exact exec_blkcnt_of_mem (by simp) h
  | finish => exact exec_blkcnt_of_mem (by simp) h
  | abort => exact exec_blkcnt_of_mem (by simp) h
  | genSp => exact exec_blkcnt_of_mem (by simp) h
  | genBq => exact exec_blkcnt_of_mem (by simp) h

end Sys2Proof.Machine
end

section
/-! PROOFS. The address map at every aligned offset (20_memory R80, R81), and the accesses it turns away (R83). -/

namespace Sys2Proof.Machine

/-! ## The ranges of the map -/

/-- The 34 registers fill the aligned offsets up to 0x084 (10_state R31). -/
theorem exists_regOffset_eq {off : Nat} (ha : off % 4 = 0) (h : off ≤ 0x084) : ∃ r, regOffset r = off := by
  have hwords : ∀ k, k < 34 → ∃ r ∈ allRegs, regOffset r = 4 * k := by decide
  obtain ⟨r, _, hr⟩ := hwords (off / 4) (by omega)
  exact ⟨r, by omega⟩

theorem targetOf_eq_reserved {off : Nat} (n : Nat) (ha : off % 4 = 0) (h : 0x088 ≤ off) (h' : off ≤ 0x0FC) :
    targetOf n off = .reserved := by
  have hk := targetOf_reserved n (k := (off - 0x088) / 4) (by omega)
  rwa [show 0x088 + 4 * ((off - 0x088) / 4) = off by omega] at hk

/-- Between the reserved offsets and the buffer, and above the buffer, nothing is mapped. -/
theorem targetOf_eq_unmapped {n off : Nat}
    (h : (0x00100 ≤ off ∧ off < 0x10000) ∨ 0x10000 + 4 * n ≤ off) : targetOf n off = .unmapped := by
  simp only [targetOf, regAt_of_gt (show 0x084 < off by omega)]
  rw [if_neg (by omega), if_neg (by omega)]

theorem targetOf_ne_unmapped {n off : Nat} (ha : off % 4 = 0)
    (h : off ≤ 0x0FC ∨ (0x10000 ≤ off ∧ off < 0x10000 + 4 * n)) : targetOf n off ≠ .unmapped := by
  rcases h with hlow | ⟨hbase, htop⟩
  · by_cases hreg : off ≤ 0x084
    · obtain ⟨r, rfl⟩ := exists_regOffset_eq ha hreg
      simp [targetOf_reg]
    · simp [targetOf_eq_reserved n ha (by omega) hlow]
  · simp [targetOf_of_ge hbase htop]

/-- A register is found at its own offset only. -/
theorem targetOf_eq_reg {n off : Nat} {r : Reg} (h : targetOf n off = .reg r) : regOffset r = off := by
  unfold targetOf at h
  split at h
  · next r' hr' =>
    obtain rfl := Target.reg.inj h
    exact regAt_offset hr'
  · split_ifs at h

/-- Settles O46: range by range, the registers' offsets being those of the table. -/
theorem addressMap : Obligations.AddressMap := by
  unfold Obligations.AddressMap
  refine ⟨fun n s p hp => ?_, fun s => rfl, fun n off ha => ⟨fun hreg => ?_, ?_, fun hlow hhigh => ?_,
    fun i hi hoff => ?_, fun htop => ?_⟩⟩
  · have hoff := regOffset_of_registerTable s p hp
    exact ⟨hoff ▸ targetOf_reg n p.1, hoff⟩
  · obtain ⟨r, rfl⟩ := exists_regOffset_eq ha hreg
    exact ⟨r, targetOf_reg n r, rfl⟩
  · exact targetOf_eq_reserved n ha
  · exact targetOf_eq_unmapped (.inl ⟨hlow, by omega⟩)
  · exact hoff ▸ targetOf_buffer hi
  · exact targetOf_eq_unmapped (.inr htop)

/-! ## Bad accesses -/

theorem busAccess_of_bad {a : Access} {s : State} (hr : s.rstN = true) (h : accessBad s.blockSize a = true) :
    busAccess a s = .next { s with resp := .error, faults := s.faults ++ [.busError a.off.toNat] } := by
  simp [busAccess, hr, h, respond, recordFault]

/-- Settles O47: each of the three causes makes the access bad. -/
theorem badAccessIsABusErrorOnly : Obligations.BadAccessIsABusErrorOnly := by
  unfold Obligations.BadAccessIsABusErrorOnly
  intro a s hr h
  refine busAccess_of_bad hr ?_
  rw [accessBad, Bool.or_eq_true, Bool.or_eq_true, bne_iff_ne, bne_iff_ne, beq_iff_eq, or_assoc]
  exact h.imp_right (.imp_right fun hrange => targetOf_eq_unmapped (by omega))

end Sys2Proof.Machine
end

section
/-! PROOFS. Everything a host read can do, said once (20_memory R82, R84 to R86), and what no access of the host changes
(R84, R99). -/

namespace Sys2Proof.Machine

/-! ## Reads -/

/-- The states that a read can leave. -/
inductive ReadEffect (s : State) : State → Prop where
  | unanswered : ReadEffect s s
  | answered (w : Word) : ReadEffect s (respond (.data w) s)
  | unspecified : ReadEffect s (respondFree s)
  | unwritten (i : Nat) : ReadEffect s (respondFree (recordFault (.unwrittenRead i) s))

theorem readRegAccess_effect (r : Reg) (s : State) : ReadEffect s (readRegAccess r s) := by
  unfold readRegAccess
  split
  · exact .unspecified
  · exact .answered _

theorem readReservedAccess_effect (s : State) : ReadEffect s (readReservedAccess s) := by
  unfold readReservedAccess
  split
  · exact .unspecified
  · exact .answered _

theorem readBufferAccess_effect (i : Nat) (s : State) : ReadEffect s (readBufferAccess i s) := by
  unfold readBufferAccess
  split
  · exact .unwritten i
  · split
    · exact .unspecified
    · exact .answered _

theorem readAccess_effect (off : BitVec 17) (s : State) : ReadEffect s (readAccess off s) := by
  unfold readAccess
  split
  · exact readRegAccess_effect _ s
  · exact readReservedAccess_effect s
  · exact readBufferAccess_effect _ s
  · exact .unanswered

theorem readEffect_frame {s t : State} (h : ReadEffect s t) :
    t = { s with resp := t.resp, faults := t.faults, draws := t.draws } := by
  cases h <;> rfl

/-- Settles O50: a bad read records the bus error, and any other has one of the listed effects. -/
theorem readsHaveNoSideEffect : Obligations.ReadsHaveNoSideEffect := by
  unfold Obligations.ReadsHaveNoSideEffect
  intro off n s t h
  obtain ⟨_, ⟨_, rfl⟩ | ⟨_, ⟨off, n, _, rfl⟩ | ⟨_, _, _, hwrite, _⟩⟩⟩ := busAccess_next h
  · rfl
  · exact readEffect_frame (readAccess_effect off s)
  · cases hwrite

/-! ## The invocation -/

/-- What no bus access changes from `s` to `t` (20_memory R84, R99). -/
def InvocationKept (s t : State) : Prop :=
  t.active = s.active ∧ t.nonempty = s.nonempty ∧ t.spSeeded = s.spSeeded ∧ t.blkcnt = s.blkcnt ∧
  t.intY1 = s.intY1 ∧ t.spY1 = s.spY1 ∧ t.bqHist = s.bqHist ∧ t.combHist = s.combHist ∧
  t.blockSize = s.blockSize ∧ t.rstN = s.rstN ∧ t.agenda = s.agenda ∧ s.draws ≤ t.draws ∧
  (∀ w, s.cmdLatch = some w → t.cmdLatch = some w)

theorem invocationKept_readEffect {s t : State} (h : ReadEffect s t) : InvocationKept s t := by
  cases h <;> simp [InvocationKept]

theorem invocationKept_writeEffect {off : BitVec 17} {v : Word} {s u : State} (h : WriteEffect off v s u) :
    InvocationKept s u := by
  cases h with
  | latched idle => simp [InvocationKept, idle]
  | _ => simp [InvocationKept]

/-- Settles O55: an access is turned away, or has one of the listed effects of a read or a write. -/
theorem hostAccessesKeepTheInvocation : Obligations.HostAccessesKeepTheInvocation := by
  unfold Obligations.HostAccessesKeepTheInvocation
  intro a s t h
  obtain ⟨_, ⟨_, rfl⟩ | ⟨_, ⟨off, n, _, rfl⟩ | ⟨off, n, v, _, rfl⟩⟩⟩ := busAccess_next h
  · simp
  · exact invocationKept_readEffect (readAccess_effect off s)
  · obtain ⟨u, hu, hwrite⟩ := writeAccess_effect off v s
    rw [hwrite]
    have hkept : InvocationKept s u := invocationKept_writeEffect hu
    exact hkept

end Sys2Proof.Machine
end

section
/-! PROOFS. The host's accesses to the buffer, and all of its accesses while BUSY = 1 (20_memory R81, R82, R84, R86). -/

namespace Sys2Proof.Machine

/-! ## A buffer word written while idle -/

/-- Settles O54: the byte frame and the read-back are those of one word's write. -/
theorem bufferWriteThenRead : Obligations.BufferWriteThenRead := by
  unfold Obligations.BufferWriteThenRead
  intro s i v hr hl hb hi
  refine ⟨writeBuf s.mem i v, ?_, fun a ha => readByte_writeWord_of_outside s.mem v ha, ?_⟩
  · rw [busAccess_write_buf v hr hi hb, hl]
    rfl
  · rw [busAccess_read_buf (s := { s with mem := writeBuf s.mem i v, resp := .okay }) hr hi hb]
    simp [readBufferAccess, hl, respond]

/-! ## While busy -/

/-- A register that can be polled reads its value whether the CORE is busy or not. -/
theorem busAccess_read_reg_of_readable {s : State} {r : Reg} (hr : s.rstN = true) (h : readableWhileBusy r = true) :
    busAccess (.read (BitVec.ofNat 17 (regOffset r)) 4) s = .next { s with resp := .data (readReg s r) } := by
  rw [busAccess_read_reg r hr]
  simp [readRegAccess, h, respond]

section Busy

variable {s : State} {w : Word} (hr : s.rstN = true) (hl : s.cmdLatch = some w)
include hr hl

theorem busAccess_read_reg_of_unreadable {r : Reg} (h : readableWhileBusy r = false) :
    busAccess (.read (BitVec.ofNat 17 (regOffset r)) 4) s = .next (respondFree s) := by
  rw [busAccess_read_reg r hr]
  simp [readRegAccess, hl, h]

theorem busAccess_read_buf_of_busy {i : Nat} (hi : i < s.blockSize) (hb : s.blockSize ≤ 16384)
    (h : (readBuf s.mem i).isSome) :
    busAccess (.read (BitVec.ofNat 17 (0x10000 + 4 * i)) 4) s = .next (respondFree s) := by
  obtain ⟨x, hx⟩ := Option.isSome_iff_exists.1 h
  rw [busAccess_read_buf hr hi hb]
  simp [readBufferAccess, hx, hl]

theorem busAccess_read_reserved_of_busy {k : Nat} (hk : k < 30) :
    busAccess (.read (BitVec.ofNat 17 (0x088 + 4 * k)) 4) s = .next (respondFree s) := by
  rw [busAccess_read_reserved hr hk]
  simp [readReservedAccess, hl]

theorem busAccess_write_status_of_busy (v : Word) :
    busAccess (.write 0x00008#17 4 v) s = .next { acknowledge v s with resp := .okay } := by
  refine (busAccess_write_reg_of_busy .status v hr hl).trans ?_
  rw [writeBusy_status]
  rfl

/-- STATUS is the one register at its offset, so any other mapped write is dropped. -/
theorem busAccess_write_of_busy {off : BitVec 17} (v : Word) (hne : off ≠ 0x00008#17) (ha : off.toNat % 4 = 0)
    (hm : targetOf s.blockSize off.toNat ≠ .unmapped) :
    busAccess (.write off 4 v) s = .next { raiseError .busyWrite (off.setWidth 32) s with resp := .okay } := by
  have hstatus : targetOf s.blockSize off.toNat ≠ .reg .status := fun h =>
    hne (BitVec.eq_of_toNat_eq (targetOf_eq_reg h).symm)
  rw [busAccess_write_of_mapped v hr ha hm, writeAccess, hl, Option.isSome_some, if_pos rfl, writeBusy,
    if_neg hstatus]
  rfl

end Busy

/-- The registers that 20_memory R84 lets a host poll. -/
theorem readableWhileBusy_iff (r : Reg) :
    readableWhileBusy r = true ↔ r ∈ [Reg.id, Reg.ctrl, Reg.status, Reg.errcode, Reg.errinfo, Reg.blksz] := by
  cases r <;> decide

/-- Settles O49: target by target, a read and then a write. -/
theorem busyWindowAccesses : Obligations.BusyWindowAccesses := by
  unfold Obligations.BusyWindowAccesses
  refine fun s w hr hl hb => ⟨fun r hpoll => ?_, fun r hpoll => ?_, fun i hi hw => ?_, fun v => ?_,
    fun off v hne ha hm => ?_, fun k hk => ?_, fun a hbad => ?_⟩
  · exact busAccess_read_reg_of_readable hr ((readableWhileBusy_iff r).2 hpoll)
  · exact ⟨_, busAccess_read_reg_of_unreadable hr hl
      (Bool.eq_false_iff.2 fun h => hpoll ((readableWhileBusy_iff r).1 h))⟩
  · exact ⟨_, busAccess_read_buf_of_busy hr hl hi hb hw⟩
  · exact busAccess_write_status_of_busy hr hl v
  · exact busAccess_write_of_busy hr hl v hne ha (targetOf_ne_unmapped ha hm)
  · exact ⟨_, busAccess_read_reserved_of_busy hr hl hk⟩
  · exact busAccess_of_bad hr hbad

end Sys2Proof.Machine
end

section
/-! PROOFS. The buffer and the commands: a RUN over an unwritten word (20_memory R86), and which bytes a command writes
(20_memory R80, R87; 30_encoding R122). -/

namespace Sys2Proof.Machine

/-! ## Unwritten words -/

/-- The loop over a block stops at its first unwritten word. -/
theorem sweep_map_of_firstUnwritten {H : Type} {f : H → Word → H × Word} {count n : Nat} {h : H} {m : Memory}
    {g : H × Memory → State} (hn : n < count) (hu : FirstUnwritten m n) :
    (sweep f count 0 h m).map g = .error n := by
  obtain ⟨hnone, hsome⟩ := hu
  rw [sweep_unwritten f 0 h m hn (by simpa using hsome) (by simpa using hnone), Nat.zero_add]
  rfl

/-- A seed that is not there is BUF[0] unwritten, which is then the first unwritten word (42_single_pole R191). -/
theorem spLoop_of_firstUnwritten {s : State} {n : Nat} (hn : n < s.blockSize) (hu : FirstUnwritten s.mem n) :
    spLoop s = .error n := by
  unfold spLoop
  split
  · next hseed =>
    have hzero : readBuf s.mem 0 = none := by
      unfold spSeed at hseed
      split at hseed
      · cases hseed
      · exact hseed
    rcases Nat.eq_zero_or_pos n with rfl | hpos
    · rfl
    · simpa [hzero] using hu.2 0 hpos
  · exact sweep_map_of_firstUnwritten hn hu

theorem busAccess_read_buf_of_unwritten {s : State} {i : Nat} (hr : s.rstN = true) (hi : i < s.blockSize)
    (hb : s.blockSize ≤ 16384) (h : readBuf s.mem i = none) :
    busAccess (.read (BitVec.ofNat 17 (0x10000 + 4 * i)) 4) s =
      .next (respondFree (recordFault (.unwrittenRead i) s)) := by
  rw [busAccess_read_buf hr hi hb, readBufferAccess, h]

/-- Settles O26: the host read draws a free word, and each kernel's loop stops at the first unwritten word. -/
theorem unwrittenWordsFault : Obligations.UnwrittenWordsFault := by
  unfold Obligations.UnwrittenWordsFault
  intro s n hn hb hnone
  refine ⟨fun hr => ⟨_, busAccess_read_buf_of_unwritten hr hn hb hnone⟩, fun hsome p hp ha => ?_⟩
  have hu : FirstUnwritten s.mem n := ⟨hnone, hsome⟩
  simp only [List.mem_cons, List.not_mem_nil, or_false] at hp
  rcases hp with rfl | rfl | rfl | rfl
  · exact runCommand_of_error ha (sweep_map_of_firstUnwritten hn hu)
  · exact runCommand_of_error ha (spLoop_of_firstUnwritten hn hu)
  · exact runCommand_of_error ha (sweep_map_of_firstUnwritten hn hu)
  · exact runCommand_of_error ha (sweep_map_of_firstUnwritten hn hu)

/-! ## The memory frame of the commands -/

/-- A command leaves the buffer as it is, or is a RUN and writes one block to it. -/
theorem exec_mem {i : Instr} {s t : State} (h : exec i s = .next t) :
    t.mem = s.mem ∨
    (i ∈ [Instr.runInt, Instr.runSp, Instr.runBq, Instr.runComb] ∧
      ∃ ys : List Word, ys.length = s.blockSize ∧ t.mem = writeBlock s.mem 0 ys) := by
  cases exec_answers h with
  | ranInt xs _ len _ | ranSp y0 xs _ _ len _ | ranBq xs _ len _ | ranComb xs _ len _ =>
    exact .inr ⟨by simp, _, (scan_length _ _ xs).trans len, rfl⟩
  | _ => exact .inl (by simp)

/-- Settles O29: a RUN's block ends where the buffer does, and no other command writes. -/
theorem onlyRunsWriteTheBuffer : Obligations.OnlyRunsWriteTheBuffer := by
  unfold Obligations.OnlyRunsWriteTheBuffer
  intro i s t h
  rcases exec_mem h with hmem | ⟨hrun, ys, hlen, hmem⟩ <;> rw [hmem]
  · exact ⟨fun _ _ => rfl, fun _ _ => rfl⟩
  · refine ⟨fun hno => absurd hrun hno, fun a ha => readByte_writeBlock_of_outside s.mem 0 ys ?_⟩
    rwa [Nat.zero_add, hlen]

end Sys2Proof.Machine
end

section
/-! PROOFS. Framing a Signal and unframing it (20_memory R88, R89). -/

namespace Sys2Proof.Machine

/-- Blocks of consecutive indices, one after another, are the indices in order. -/
theorem flatten_blocks_of_range {α : Type} (f : Nat → α) (len count : Nat) :
    ((List.range count).map fun k => (List.range len).map fun j => f (k * len + j)).flatten =
      (List.range (count * len)).map f := by
  induction count with
  | zero => simp
  | succ c ih => simp [List.range_succ, ih, Nat.succ_mul, List.range_add, Function.comp_def]

/-- Reading past the end of a list with a default pads it on the right. -/
theorem map_getD_range {α : Type} (xs : List α) (d : α) {n : Nat} (h : xs.length ≤ n) :
    (List.range n).map (fun i => xs.getD i d) = xs ++ List.replicate (n - xs.length) d := by
  refine List.ext_getElem (by simp [h]) fun i hi _ => ?_
  simp only [List.getElem_map, List.getElem_range, List.getElem_append, List.getD_eq_getElem?_getD]
  split
  · next hlt => simp [hlt]
  · next hge => simp [hge]

/-- The blocks of a Signal hold all its samples (20_memory R88). -/
theorem le_mul_blockCount {blockLen : Nat} (h : 0 < blockLen) (len : Nat) :
    len ≤ blockLen * blockCount blockLen len := by
  rw [blockCount, ← Nat.ceilDiv_eq_add_pred_div]
  exact le_smul_ceilDiv h

theorem length_frame (blockLen : Nat) (samples : List Word) :
    (frame blockLen samples).length = blockCount blockLen samples.length := by
  simp [frame]

theorem length_of_mem_frame {blockLen : Nat} {samples b : List Word} (h : b ∈ frame blockLen samples) :
    b.length = blockLen := by
  obtain ⟨k, _, rfl⟩ := List.mem_map.1 h
  simp

theorem unframe_frame {blockLen : Nat} (h : 0 < blockLen) (samples : List Word) :
    unframe (frame blockLen samples) =
      samples ++ List.replicate (blockLen * blockCount blockLen samples.length - samples.length) 0#32 := by
  rw [unframe, frame, flatten_blocks_of_range fun i => samples.getD i 0#32, Nat.mul_comm,
    map_getD_range samples 0#32 (le_mul_blockCount h _)]

/-- Settles O56, by the lengths of the frame and of its blocks and `unframe_frame`. -/
theorem unframeOfFramePadsWithZeros : Obligations.UnframeOfFramePadsWithZeros := by
  unfold Obligations.UnframeOfFramePadsWithZeros
  exact fun blockLen samples h =>
    ⟨fun _ => length_of_mem_frame, length_frame blockLen samples, unframe_frame h samples⟩

end Sys2Proof.Machine
end

section
/-! PROOFS. Command words and commands (30_encoding R120 to R125): the opcode table is one-to-one, a word is its OPC and
its RSVD, and so a word decodes exactly where it is some command's encoding. -/

namespace Sys2Proof.Machine

/-! ## The opcode table -/

/-- Every command's row of the table (30_encoding R123). -/
theorem encoding_statement : ∀ i, Laws.Encoding.Statement i
  | .nop => Laws.Encoding.nop
  | .initInt => Laws.Encoding.initInt
  | .initSp => Laws.Encoding.initSp
  | .initBq => Laws.Encoding.initBq
  | .initComb => Laws.Encoding.initComb
  | .runInt => Laws.Encoding.runInt
  | .runSp => Laws.Encoding.runSp
  | .runBq => Laws.Encoding.runBq
  | .runComb => Laws.Encoding.runComb
  | .finish => Laws.Encoding.finish
  | .abort => Laws.Encoding.abort
  | .genSp => Laws.Encoding.genSp
  | .genBq => Laws.Encoding.genBq
  | .srst => Laws.Encoding.srst

@[simp] theorem decode_encode (i : Instr) : decode (encode i) = .command i :=
  (encoding_statement i).1

theorem encode_eq_append (i : Instr) : encode i = opcField (encode i) ++ 0#24 :=
  (encoding_statement i).2.2

/-- An OPC names a command only where it is the OPC of that command's word. -/
theorem eq_opcField_of_opcToInstr {opc : Byte} {i : Instr} (h : opcToInstr opc = some i) :
    opc = opcField (encode i) := by
  revert h
  fun_cases opcToInstr opc with
  | case15 => exact nofun
  | _ => rintro ⟨⟩; assumption

theorem mem_legalOpcodes_iff (opc : Byte) : opc ∈ legalOpcodes ↔ ∃ i, opcToInstr opc = some i := by
  constructor
  · have htable : ∀ o ∈ legalOpcodes, (opcToInstr o).isSome := by decide
    exact fun h => Option.isSome_iff_exists.1 (htable opc h)
  · rintro ⟨i, h⟩
    rw [eq_opcField_of_opcToInstr h]
    cases i <;> decide

/-! ## The decoder -/

theorem decode_eq_command_iff (w : Word) (i : Instr) :
    decode w = .command i ↔ opcToInstr (opcField w) = some i ∧ w.extractLsb' 0 24 = 0#24 := by
  unfold decode
  split
  · next hnone => simp [hnone]
  · next j hsome =>
    rw [hsome]
    split_ifs with hr <;> simp_all [rsvdClear]

/-- A word that decodes is the OPC of its command's word with RSVD zero, which is that word. -/
theorem eq_encode_of_decode {w : Word} {i : Instr} (h : decode w = .command i) : w = encode i := by
  obtain ⟨hopc, hrsvd⟩ := (decode_eq_command_iff w i).1 h
  calc w = opcField w ++ w.extractLsb' 0 24 := by
        rw [opcField, BitVec.extractLsb'_append_extractLsb'_eq_extractLsb' (by rfl)]
        simp
    _ = opcField (encode i) ++ 0#24 := by rw [← eq_opcField_of_opcToInstr hopc, hrsvd]
    _ = encode i := (encode_eq_append i).symm

theorem exists_decode_eq_command_iff (w : Word) :
    (∃ i, decode w = .command i) ↔ w.extractLsb' 24 8 ∈ legalOpcodes ∧ w.extractLsb' 0 24 = 0#24 := by
  simp only [decode_eq_command_iff, exists_and_right, mem_legalOpcodes_iff, opcField]

theorem performWord_of_not_command {w : Word} (h : ¬ ∃ i, decode w = .command i) (s : State) :
    performWord w s = .next (complete (raiseError .illegalCommand w s)) := by
  unfold performWord
  split
  · rfl
  · next i hd => exact absurd ⟨i, hd⟩ h

/-! ## The statements -/

/-- Settles O2: a word that decodes is put together again from its two fields, and the table gives the converse. -/
theorem wordDecodesIffItIsTheEncoding : Obligations.WordDecodesIffItIsTheEncoding := by
  unfold Obligations.WordDecodesIffItIsTheEncoding
  exact fun w i => ⟨eq_encode_of_decode, fun h => h ▸ decode_encode i⟩

/-- Settles O3: the words with a legal OPC and RSVD = 0 are those that decode. -/
theorem illegalWordOnlyRecordsIllegalCommand : Obligations.IllegalWordOnlyRecordsIllegalCommand := by
  unfold Obligations.IllegalWordOnlyRecordsIllegalCommand
  intro w s
  rw [← exists_decode_eq_command_iff]
  refine ⟨fun ⟨i, hd⟩ => ⟨i, (eq_encode_of_decode hd).symm, ?_⟩, fun h => performWord_of_not_command h s⟩
  rw [performWord, hd]

/-- Settles O1: each written-out word is the encoding of its row's command. -/
theorem opcodeTableDecodes : Obligations.OpcodeTableDecodes := by
  unfold Obligations.OpcodeTableDecodes
  exact ⟨decode_encode .nop, decode_encode .initInt, decode_encode .initSp, decode_encode .initBq,
    decode_encode .initComb, decode_encode .runInt, decode_encode .runSp, decode_encode .runBq,
    decode_encode .runComb, decode_encode .finish, decode_encode .abort, decode_encode .genSp,
    decode_encode .genBq, decode_encode .srst⟩

end Sys2Proof.Machine
end

section
/-! PROOFS. What the commands write beside the buffer: the registers and the fault records (30_encoding R122,
45_coefficients R253, R255; 20_memory R86), and the kernels' histories (10_state R58). -/

namespace Sys2Proof.Machine

/-! ## Which commands open and run a kernel -/

theorem opens_iff (i : Instr) (k : Kernel) :
    Opens i k ↔ (i = .initInt ∧ k = .int) ∨ (i = .initSp ∧ k = .sp) ∨ (i = .initBq ∧ k = .bq) ∨
      (i = .initComb ∧ k = .comb) := by
  unfold Opens
  split <;> simp_all

theorem runs_iff (i : Instr) (k : Kernel) :
    Runs i k ↔ (i = .runInt ∧ k = .int) ∨ (i = .runSp ∧ k = .sp) ∨ (i = .runBq ∧ k = .bq) ∨
      (i = .runComb ∧ k = .comb) := by
  unfold Runs
  split <;> simp_all

/-! ## The registers -/

theorem exec_port {i : Instr} {s t : State} (h : exec i s = .next t) :
    t.blockSize = s.blockSize ∧ t.rstN = s.rstN ∧ t.resp = s.resp ∧ t.agenda = s.agenda ∧ t.draws = s.draws := by
  cases exec_answers h <;> simp

/-- A command records no fault, or is a RUN over a block with an unwritten word and records the first one. -/
theorem exec_faults {i : Instr} {s t : State} (h : exec i s = .next t) (hb : 1 ≤ s.blockSize) :
    t.faults = s.faults ∨
    ((∃ k, Runs i k) ∧ ∃ n, n < s.blockSize ∧ FirstUnwritten s.mem n ∧ t.faults = s.faults ++ [.unwrittenRead n]) := by
  cases exec_answers h with
  | ranUnwritten k n runs _ inside first => exact .inr ⟨⟨k, runs⟩, n, by omega, first, rfl⟩
  | _ => exact .inl (by simp)

/-- No command but SRST writes CTRL, a generator input or a gain. -/
theorem exec_inputs {i : Instr} {s t : State} (h : exec i s = .next t) (hi : i ≠ .srst) :
    t.ieDone = s.ieDone ∧ t.ieErr = s.ieErr ∧ t.combVar = s.combVar ∧ t.fs = s.fs ∧ t.fc = s.fc ∧ t.q = s.q ∧
    t.spW = s.spW ∧ t.combG1 = s.combG1 ∧ t.combG2 = s.combG2 := by
  cases exec_answers h with
  | softReset => exact absurd rfl hi
  | _ => simp

theorem exec_spAlpha {i : Instr} {s t : State} (h : exec i s = .next t) (hi : i ≠ .srst) (hg : i ≠ .genSp) :
    t.spAlpha = s.spAlpha := by
  cases exec_answers h with
  | softReset => exact absurd rfl hi
  | generatedSp => exact absurd rfl hg
  | _ => simp

theorem exec_bqCoeffs {i : Instr} {s t : State} (h : exec i s = .next t) (hi : i ≠ .srst) (hg : i ≠ .genBq) :
    t.bqCoeffs = s.bqCoeffs := by
  cases exec_answers h with
  | softReset => exact absurd rfl hi
  | generatedBq => exact absurd rfl hg
  | _ => simp

/-- Settles O27, a clause at a time. -/
theorem commandsWriteOnlyTheirRegisters : Obligations.CommandsWriteOnlyTheirRegisters := by
  unfold Obligations.CommandsWriteOnlyTheirRegisters
  refine fun i s t h => ⟨exec_port h, fun hb => ?_, exec_inputs h, exec_spAlpha h, exec_bqCoeffs h⟩
  refine (exec_faults h hb).imp_right fun ⟨⟨k, hruns⟩, n, hn, ⟨hnone, hsome⟩, hfaults⟩ =>
    ⟨?_, n, hn, hnone, hsome, hfaults⟩
  rcases (runs_iff i k).1 hruns with ⟨rfl, _⟩ | ⟨rfl, _⟩ | ⟨rfl, _⟩ | ⟨rfl, _⟩ <;> simp

/-! ## The histories -/

/-- Kernel k's history is the same in `t` as in `s` (10_state R58). -/
def HistoryKept (k : Kernel) (s t : State) : Prop :=
  match k with
  | .none => True
  | .int => t.intY1 = s.intY1
  | .sp => t.spY1 = s.spY1 ∧ t.spSeeded = s.spSeeded
  | .bq => t.bqHist = s.bqHist
  | .comb => t.combHist = s.combHist

theorem historyKept_of_eq {s t : State} (k : Kernel) (hint : t.intY1 = s.intY1) (hsp : t.spY1 = s.spY1)
    (hseed : t.spSeeded = s.spSeeded) (hbq : t.bqHist = s.bqHist) (hcomb : t.combHist = s.combHist) :
    HistoryKept k s t := by
  cases k with
  | none => trivial
  | int => exact hint
  | sp => exact ⟨hsp, hseed⟩
  | bq => exact hbq
  | comb => exact hcomb

theorem historyKept_openInvocation {k k' : Kernel} (s : State) (h : k' ≠ k) :
    HistoryKept k s (openInvocation k' s) := by
  cases k <;> simp [HistoryKept, h]

theorem historyKept_closeInvocation {k : Kernel} {s : State} (h : s.active ≠ k) :
    HistoryKept k s (closeInvocation s) := by
  cases k <;> simp [HistoryKept, h]

theorem historyKept_complete {k : Kernel} {s t : State} (h : HistoryKept k s t) : HistoryKept k s (complete t) := by
  cases k <;> exact h

theorem historyKept_raiseError {k : Kernel} {s t : State} (code : ErrCode) (info : Word) (h : HistoryKept k s t) :
    HistoryKept k s (raiseError code info t) := by
  cases k <;> simp_all [HistoryKept]

/-- A command that neither opens nor runs kernel k, and neither closes its invocation nor resets, keeps its history. -/
theorem historyKept_exec {i : Instr} {k : Kernel} {s t : State} (h : exec i s = .next t) (hi : i ≠ .srst)
    (hopens : ¬ Opens i k) (hruns : ¬ Runs i k) (hclose : ¬ (s.active = k ∧ (i = .finish ∨ i = .abort))) :
    HistoryKept k s t := by
  cases exec_answers h with
  | opened k' _ opens => exact historyKept_complete (historyKept_openInvocation s fun hk => hopens (hk ▸ opens))
  | ranInt | ranSp | ranBq | ranComb => cases k <;> simp_all [HistoryKept, runs_iff]
  | aborted => exact historyKept_complete (historyKept_closeInvocation fun ha => hclose ⟨ha, .inr rfl⟩)
  | finished => exact historyKept_complete (historyKept_closeInvocation fun ha => hclose ⟨ha, .inl rfl⟩)
  | finishedEmpty =>
    exact historyKept_complete
      (historyKept_raiseError _ _ (historyKept_closeInvocation fun ha => hclose ⟨ha, .inl rfl⟩))
  | softReset => exact absurd rfl hi
  | _ => exact historyKept_of_eq k (by simp) (by simp) (by simp) (by simp) (by simp)

/-- Settles O28, a kernel at a time. -/
theorem historiesBelongToTheirKernels : Obligations.HistoriesBelongToTheirKernels := by
  unfold Obligations.HistoriesBelongToTheirKernels
  exact fun i s t h hi =>
    ⟨fun ho hr => historyKept_exec (k := .int) h hi (by simp [opens_iff, ho]) (by simp [runs_iff, hr]),
      fun ho hr => historyKept_exec (k := .sp) h hi (by simp [opens_iff, ho]) (by simp [runs_iff, hr]),
      fun ho hr => historyKept_exec (k := .bq) h hi (by simp [opens_iff, ho]) (by simp [runs_iff, hr]),
      fun ho hr => historyKept_exec (k := .comb) h hi (by simp [opens_iff, ho]) (by simp [runs_iff, hr])⟩

end Sys2Proof.Machine
end

section
/-! PROOFS. The control commands NOP, ABORT, FINISH and SRST, and INIT_k and RUN_k out of order: one equation for each
case of a command (40_sequencing R150 to R155). -/

namespace Sys2Proof.Machine

/-! ## One equation per case -/

theorem exec_nop (s : State) : exec .nop s = .next (complete s) := rfl

theorem exec_srst (s : State) : exec .srst s = .next (resetRegisters s) := rfl

theorem exec_abort_of_idle {s : State} (h : s.active = .none) : exec .abort s = .next (complete s) :=
  if_pos h

theorem exec_abort_of_open {s : State} (h : s.active ≠ .none) :
    exec .abort s = .next (complete (closeInvocation s)) :=
  if_neg h

theorem exec_finish_of_idle {s : State} (h : s.active = .none) :
    exec .finish s = failCommand .finish .sequence s :=
  if_pos h

theorem exec_finish_of_nonempty {s : State} (h : s.active ≠ .none) (hn : s.nonempty = true) :
    exec .finish s = .next (complete (closeInvocation s)) :=
  (if_neg h).trans (if_pos hn)

theorem exec_finish_of_empty {s : State} (h : s.active ≠ .none) (hn : s.nonempty = false) :
    exec .finish s = failCommand .finish .invalidInput (closeInvocation s) :=
  (if_neg h).trans (if_neg (by simp [hn]))

theorem initCommand_of_open {s : State} (i : Instr) (k : Kernel) (h : s.active ≠ .none) :
    initCommand i k s = failCommand i .sequence s :=
  if_pos h

theorem runCommand_of_inactive {s : State} {k : Kernel} (i : Instr) (loop : State → Except Nat State)
    (h : s.active ≠ k) : runCommand i k loop s = failCommand i .sequence s :=
  if_pos h

/-- The completion and the recording of an error touch different fields, so their order does not matter. -/
theorem complete_raiseError (code : ErrCode) (info : Word) (s : State) :
    complete (raiseError code info s) = raiseError code info (complete s) := by
  unfold raiseError
  rw [complete_err]
  split <;> rfl

/-! ## The statements -/

/-- Settles O17: FINISH closes with the same operation as ABORT, and its error commutes with the completion. -/
theorem finishClosesAndReportsEmpty : Obligations.FinishClosesAndReportsEmpty := by
  unfold Obligations.FinishClosesAndReportsEmpty
  refine fun s => ⟨exec_finish_of_idle, fun h hn => ?_, fun h hn => ?_⟩
  · exact ⟨_, exec_abort_of_open h, exec_finish_of_nonempty h hn⟩
  · refine ⟨_, exec_abort_of_open h, ?_⟩
    rw [exec_finish_of_empty h hn, ← complete_raiseError]
    rfl

/-- Settles O19: the check is the same in each template, and each row's word is its command's encoding. -/
theorem initAndRunOutOfSequence : Obligations.InitAndRunOutOfSequence := by
  unfold Obligations.InitAndRunOutOfSequence
  refine fun s => ⟨fun h p hp => ?_, fun p hp h => ?_⟩
  · simp only [List.mem_cons, List.not_mem_nil, or_false] at hp
    rcases hp with rfl | rfl | rfl | rfl
    · exact initCommand_of_open .initInt .int h
    · exact initCommand_of_open .initSp .sp h
    · exact initCommand_of_open .initBq .bq h
    · exact initCommand_of_open .initComb .comb h
  · simp only [List.mem_cons, List.not_mem_nil, or_false] at hp
    rcases hp with rfl | rfl | rfl | rfl
    · exact runCommand_of_inactive .runInt intLoop h
    · exact runCommand_of_inactive .runSp spLoop h
    · exact runCommand_of_inactive .runBq bqLoop h
    · exact runCommand_of_inactive .runComb combLoop h

/-- Settles O7: SRST is the reset of the registers. -/
theorem srstIsResetKeepingTheBuffer : Obligations.SrstIsResetKeepingTheBuffer := by
  unfold Obligations.SrstIsResetKeepingTheBuffer
  exact exec_srst

/-- Settles O15: NOP is the completion alone. -/
theorem nopOnlyCompletes : Obligations.NopOnlyCompletes := by
  unfold Obligations.NopOnlyCompletes
  exact exec_nop

/-- Settles O16: with a kernel open ABORT is its close, which clears that kernel's state. -/
theorem abortDiscardsTheOpenKernel : Obligations.AbortDiscardsTheOpenKernel := by
  unfold Obligations.AbortDiscardsTheOpenKernel
  intro s
  cases ha : s.active with
  | none => rw [exec_abort_of_idle ha, complete, ha]
  | int | sp | bq | comb =>
    rw [exec_abort_of_open (by simp [ha]), closeInvocation, ha]
    rfl

end Sys2Proof.Machine
end

section
/-! PROOFS. The lifecycle over (ACTIVE, NONEMPTY): what the templates of INIT_k and RUN_k and each other command leave
(40_sequencing R156). -/

namespace Sys2Proof.Machine

theorem initCommand_lifecycle {i : Instr} {k : Kernel} {s t : State} (h : initCommand i k s = .next t) :
    (t.active, t.nonempty) = if s.active = .none then (k, false) else (s.active, s.nonempty) := by
  rcases initCommand_next h with ⟨ha, rfl⟩ | ⟨ha, rfl⟩ <;> simp [ha]

/-- A RUN keeps ACTIVE, whatever it answers. -/
theorem exec_active_of_runs {i : Instr} {k : Kernel} {s t : State} (h : exec i s = .next t) (hr : Runs i k) :
    t.active = s.active := by
  cases exec_answers h with
  | opened k' _ opens =>
    rcases (runs_iff i k).1 hr with ⟨rfl, _⟩ | ⟨rfl, _⟩ | ⟨rfl, _⟩ | ⟨rfl, _⟩ <;> simp [opens_iff] at opens
  | aborted | finished | finishedEmpty | softReset => simp [runs_iff] at hr
  | _ => simp

/-- The template of RUN_k, over a loop that ends exactly where the block is written, sets NONEMPTY where it counts. -/
theorem runCommand_lifecycle {i : Instr} {k : Kernel} {loop : State → Except Nat State} {s t : State}
    (hloop : LoopsOverBlock s (loop s)) (hactive : t.active = s.active) (h : runCommand i k loop s = .next t) :
    (t.active, t.nonempty) = if s.active = k ∧ BlockWritten s then (k, true) else (s.active, s.nonempty) := by
  obtain ⟨hok, herr⟩ := hloop
  rw [hactive]
  rcases runCommand_next h with ⟨ha, rfl⟩ | ⟨ha, u, hu, rfl⟩ | ⟨ha, n, hn, rfl⟩
  · rw [if_neg fun hand => ha hand.1]
    simp
  · rw [if_pos ⟨ha, (hok u hu).1⟩, ha]
    simp
  · rw [if_neg fun hand => herr n hn hand.2]
    simp

/-- NOP and the generators take no part in the lifecycle. -/
theorem exec_lifecycle_of_mem {i : Instr} {s t : State} (hi : i ∈ [Instr.nop, .genSp, .genBq])
    (h : exec i s = .next t) : (t.active, t.nonempty) = (s.active, s.nonempty) := by
  cases exec_answers h with
  | opened k _ opens => fin_cases hi <;> simp [opens_iff] at opens
  | ranInt | ranSp | ranBq | ranComb | aborted | finished | finishedEmpty | softReset => simp at hi
  | _ => simp

theorem exec_abort_lifecycle {s t : State} (h : exec .abort s = .next t) :
    (t.active, t.nonempty) = if s.active = .none then (s.active, s.nonempty) else (.none, false) := by
  by_cases ha : s.active = .none
  · obtain rfl := Host.Outcome.next.inj ((exec_abort_of_idle ha).symm.trans h)
    simp [ha]
  · obtain rfl := Host.Outcome.next.inj ((exec_abort_of_open ha).symm.trans h)
    simp [ha]

/-- FINISH leaves what ABORT leaves, with an error or without. -/
theorem exec_finish_lifecycle {s t : State} (h : exec .finish s = .next t) :
    (t.active, t.nonempty) = if s.active = .none then (s.active, s.nonempty) else (.none, false) := by
  by_cases ha : s.active = .none
  · rw [failCommand_next ((exec_finish_of_idle ha).symm.trans h)]
    simp [ha]
  · cases hn : s.nonempty with
    | true =>
      obtain rfl := Host.Outcome.next.inj ((exec_finish_of_nonempty ha hn).symm.trans h)
      simp [ha]
    | false =>
      rw [failCommand_next ((exec_finish_of_empty ha hn).symm.trans h)]
      simp [ha]

/-- Settles O20, command by command. -/
theorem lifecycleTable : Obligations.LifecycleTable := by
  unfold Obligations.LifecycleTable
  intro i s t hb h
  cases i with
  | initInt => exact initCommand_lifecycle h
  | initSp => exact initCommand_lifecycle h
  | initBq => exact initCommand_lifecycle h
  | initComb => exact initCommand_lifecycle h
  | runInt => exact runCommand_lifecycle (loopsOverBlock_int s) (exec_active_of_runs (k := .int) h trivial) h
  | runSp => exact runCommand_lifecycle (loopsOverBlock_sp hb) (exec_active_of_runs (k := .sp) h trivial) h
  | runBq => exact runCommand_lifecycle (loopsOverBlock_bq s) (exec_active_of_runs (k := .bq) h trivial) h
  | runComb => exact runCommand_lifecycle (loopsOverBlock_comb s) (exec_active_of_runs (k := .comb) h trivial) h
  | finish => exact exec_finish_lifecycle h
  | abort => exact exec_abort_lifecycle h
  | srst => exact Host.Outcome.next.inj h ▸ rfl
  | nop => exact exec_lifecycle_of_mem (by simp) h
  | genSp => exact exec_lifecycle_of_mem (by simp) h
  | genBq => exact exec_lifecycle_of_mem (by simp) h

end Sys2Proof.Machine
end

section
/-! PROOFS. INIT_k with no invocation open (40_sequencing R150). -/

namespace Sys2Proof.Machine

theorem initCommand_of_idle {s : State} (i : Instr) (k : Kernel) (h : s.active = .none) :
    initCommand i k s = .next (complete (openInvocation k s)) :=
  if_neg (not_not.2 h)

/-- Settles O18: the template is the same for each kernel, and each seed is its kernel's cleared state. -/
theorem initOpensAFreshInvocation : Obligations.InitOpensAFreshInvocation := by
  unfold Obligations.InitOpensAFreshInvocation
  refine fun s h => ⟨?_, ?_, ?_, ?_⟩
  · exact initCommand_of_idle .initInt .int h
  · exact initCommand_of_idle .initSp .sp h
  · exact initCommand_of_idle .initBq .bq h
  · exact initCommand_of_idle .initComb .comb h

end Sys2Proof.Machine
end

section
/-! PROOFS. One invocation over several blocks (43_biquad R212, 70_reset R325): a kernel whose RUN filters each block
from the history the last one left filters their concatenation. Stated for every kernel, by induction on the blocks. -/

namespace Sys2Proof.Machine

/-- In the states `P`, the history `hist` belongs to the open invocation, and `i` filters a written block by the
recurrence `f` from it. -/
structure FiltersBy {H : Type} (i : Instr) (P : State → Prop) (hist : State → H) (f : H → Word → H × Word) : Prop where
  /-- What may stand between two RUNs keeps `P` and the history. -/
  same : ∀ {s u : State}, P s → SameKernel s u → P u ∧ hist u = hist s
  /-- A RUN keeps `P`, moves the history on and writes the block's outputs. -/
  run : ∀ {s t : State} {xs : List Word}, P s → xs.length = s.blockSize → holdsBlock s.mem xs → exec i s = .next t →
    P t ∧ hist t = (scan f (hist s) xs).1 ∧ t.mem = writeBlock s.mem 0 (scan f (hist s) xs).2

/-- The block a host reads back is the one that was written. -/
theorem eq_of_holdsBlock_writeBlock {m : Memory} {ys os : List Word} (h : holdsBlock (writeBlock m 0 ys) os)
    (hl : os.length = ys.length) : os = ys :=
  holdsBlock_unique h (holdsBlock_writeBlock m ys) hl

/-- Block by block is the single recurrence over the whole Signal. -/
theorem scan_flatten_of_filtersBlocks {H : Type} {i : Instr} {P : State → Prop} {hist : State → H}
    {f : H → Word → H × Word} (hk : FiltersBy i P hist f) {s t : State} {bs os : List (List Word)} (hs : P s)
    (hf : FiltersBlocks i s bs os t) : (hist t, os.flatten) = scan f (hist s) bs.flatten := by
  induction hf with
  | nil s => rfl
  | @cons s u v t b o bs os same len input run outLen output rest ih =>
    obtain ⟨hu, hsame⟩ := hk.same hs same
    obtain ⟨hv, hhist, hmem⟩ := hk.run hu len input run
    rw [hmem] at output
    have hout : o = (scan f (hist u) b).2 :=
      eq_of_holdsBlock_writeBlock output (outLen.trans (scan_length f (hist u) b).symm)
    have hrest : (hist t, os.flatten) = scan f (scan f (hist s) b).1 bs.flatten := by
      rw [ih hv, hhist, hsame]
    rw [List.flatten_cons, List.flatten_cons, scan_append, ← hrest, hout, hsame]

/-- A recurrence whose history is its last output ends with it, or with its seed over no samples. -/
theorem scan_fst_eq_getLastD {f : Word → Word → Word × Word} (hf : ∀ h x, (f h x).1 = (f h x).2) (h : Word)
    (xs : List Word) : (scan f h xs).1 = (scan f h xs).2.getLastD h := by
  induction xs generalizing h with
  | nil => rfl
  | cons x rest ih => rw [scan, List.getLastD_cons, ih, hf]

end Sys2Proof.Machine
end

section
/-! PROOFS. The integrator: RUN_INT over a written block (41_integrator R171) and over the blocks of one invocation
(R172). -/

namespace Sys2Proof.Machine

theorem exec_runInt_block {s : State} {xs : List Word} (ha : s.active = .int) (hl : xs.length = s.blockSize)
    (hm : holdsBlock s.mem xs) :
    exec .runInt s = .next (complete (countBlock { s with
      intY1 := (scan intSample s.intY1 xs).1
      mem := writeBlock s.mem 0 (scan intSample s.intY1 xs).2 })) :=
  runCommand_of_ok ha (intLoop_block hl hm)

/-- Settles O22: the statement's recurrence is `intSample`. -/
theorem runIntFiltersTheBlock : Obligations.RunIntFiltersTheBlock := by
  unfold Obligations.RunIntFiltersTheBlock
  intro s xs ha hl hm
  exact exec_runInt_block ha hl hm

/-- While the integrator is active, INT_Y1 is its invocation's history (10_state R58). -/
theorem filtersBy_runInt : FiltersBy .runInt (fun s => s.active = .int) State.intY1 intSample where
  same := fun ha hsame => by
    obtain ⟨hactive, _, hint, _⟩ := hsame
    exact ⟨hactive.trans ha, hint ha⟩
  run := fun ha hl hm hrun => by
    obtain rfl := Host.Outcome.next.inj ((exec_runInt_block ha hl hm).symm.trans hrun)
    exact ⟨ha, rfl, rfl⟩

/-- Settles O30: the blocks concatenate for every kernel, and INT_Y1 is the integrator's last output. -/
theorem integratorContinuity : Obligations.IntegratorContinuity := by
  unfold Obligations.IntegratorContinuity
  intro s t bs os ha hf
  have hscan := scan_flatten_of_filtersBlocks filtersBy_runInt ha hf
  refine ⟨hscan, fun y hy => ?_⟩
  have hlast := scan_fst_eq_getLastD (f := intSample) (fun _ _ => rfl) s.intY1 bs.flatten
  rw [← hscan] at hlast
  simpa [List.getLastD_eq_getLast?, hy] using hlast

end Sys2Proof.Machine
end

section
/-! PROOFS. The primitives where nothing is rounded away (00_scope R12, R13): rounding the magnitude of a finite value
gives the value back, so a zero added to it changes at most the sign of a zero. -/

namespace Sys2Proof.Machine

/-! ## Rounding a value of binary32 -/

theorem roundShift_mul_two_pow (q d : Nat) : roundShift (q * 2 ^ d) d = q := by
  have hne : 0 ≠ 2 ^ d := (Nat.two_pow_pos d).ne
  simp [roundShift, hne]

/-- A normal significand loses exactly its scale. -/
theorem dropBits_mul_two_pow {q : Nat} (e : Nat) (hlo : 2 ^ 23 ≤ q) (hhi : q < 2 ^ 24) :
    dropBits (q * 2 ^ e) 0 = e := by
  have hlog : Nat.log2 (q * 2 ^ e) = 23 + e := by
    rw [Nat.log2_eq_iff (by positivity), add_right_comm, pow_add, pow_add]
    exact ⟨Nat.mul_le_mul_right _ hlo, Nat.mul_lt_mul_of_pos_right hhi (by positivity)⟩
  rw [dropBits, hlog]
  omega

/-- A subnormal significand loses nothing. -/
theorem dropBits_of_lt {m : Nat} (h : m < 2 ^ 23) : dropBits m 0 = 0 := by
  have hlog : Nat.log2 m ≤ 23 := by
    rw [Nat.log2_eq_log_two]
    exact (Nat.log_mono_right h.le).trans (Nat.log_pow (by decide) 23).le
  rw [dropBits]
  omega

theorem packSign_fields (v : Word) : packSign (signBit v) (expField v * 2 ^ 23 + fracField v) = v := by
  have hv := v.isLt
  have hexp : expField v = v.toNat / 2 ^ 23 % 2 ^ 8 := by
    rw [expField, BitVec.extractLsb'_toNat, Nat.shiftRight_eq_div_pow]
  have hfrac : fracField v = v.toNat % 2 ^ 23 := by
    rw [fracField, BitVec.extractLsb'_toNat, Nat.shiftRight_zero]
  have hsign : signBit v = decide (v.toNat / 2 ^ 31 % 2 = 1) := Nat.testBit_eq_decide_div_mod_eq
  apply BitVec.eq_of_toNat_eq
  rw [packSign_toNat _ (by omega), hsign]
  simp only [decide_eq_true_eq]
  split <;> omega

theorem roundMag_magUnits {v : Word} (h : isFinite v = true) :
    roundMag (magUnits v) 0 = expField v * 2 ^ 23 + fracField v := by
  have he : expField v < 2 ^ 8 := (v.extractLsb' 23 8).isLt
  have hf : fracField v < 2 ^ 23 := (v.extractLsb' 0 23).isLt
  have hne : expField v ≠ 255 := by simpa [isFinite] using h
  by_cases hsub : expField v = 0
  · have hround := roundShift_mul_two_pow (fracField v) 0
    rw [pow_zero, mul_one] at hround
    rw [magUnits, if_pos hsub, roundMag, dropBits_of_lt hf, hround]
    omega
  · rw [magUnits, if_neg hsub, roundMag, dropBits_mul_two_pow _ (by omega) (by omega), roundShift_mul_two_pow]
    omega

/-- Rounding is exact on the values of binary32. -/
theorem packSign_roundMag_magUnits {v : Word} (h : isFinite v = true) :
    packSign (signBit v) (roundMag (magUnits v) 0) = v := by
  rw [roundMag_magUnits h, packSign_fields]

/-- Only the two zeros have no units. -/
theorem eq_zero_of_units_eq_zero {v : Word} (h : isFinite v = true) (h0 : units v = 0) :
    v = 0x80000000#32 ∨ v = 0#32 := by
  have hexact := packSign_roundMag_magUnits h
  rw [(units_eq_zero_iff v).1 h0, roundMag_zero, packSign_zero] at hexact
  rw [← hexact]
  exact (Bool.eq_false_or_eq_true (signBit v)).imp (fun hs => if_pos hs) fun hs => if_neg (by simp [hs])

/-- Packing a nonzero value from its signed units. -/
theorem packSign_roundMag_units {v : Word} (h : isFinite v = true) (h0 : units v ≠ 0) :
    packSign (decide (units v < 0)) (roundMag (units v).natAbs 0) = v := by
  have hsign : decide (units v < 0) = signBit v := by
    have hm : magUnits v ≠ 0 := fun hm => h0 ((units_eq_zero_iff v).2 hm)
    rw [units_eq_flipSign]
    cases signBit v <;> simp [flipSign, Nat.pos_iff_ne_zero, hm]
  have hmag : (units v).natAbs = magUnits v := by
    rw [units_eq_flipSign, natAbs_flipSign, Int.natAbs_natCast]
  rw [hsign, hmag, packSign_roundMag_magUnits h]

/-! ## Zeros as operands -/

theorem isFinite_packSign_zero (neg : Bool) : isFinite (packSign neg 0) = true :=
  isFinite_packSign neg (by decide)

theorem magUnits_packSign_zero (neg : Bool) : magUnits (packSign neg 0) = 0 := by
  cases neg <;> decide

theorem fsub_self {a : Word} (h : isFinite a = true) : fsub a a = packSign false 0 := by
  have hn : isFinite (negate a) = true := by rwa [isFinite_negate]
  have hz : units a + units (negate a) = 0 := by rw [units_negate, add_neg_cancel]
  rw [fsub, addSigned_of_finite _ _ _ h hn, if_pos hz, signBit_negate, Bool.and_not_self]

theorem fmul_packSign_zero {a : Word} (neg : Bool) (h : isFinite a = true) :
    fmul a (packSign neg 0) = packSign (signBit a != neg) 0 := by
  rw [fmul_of_finite h (isFinite_packSign_zero neg), magUnits_packSign_zero, mul_zero, roundMag_zero,
    signBit_packSign neg (by decide)]

/-- A zero added to a finite value leaves it, and -0.0 is left only by -0.0. -/
theorem fadd_packSign_zero {a : Word} (neg : Bool) (h : isFinite a = true) :
    fadd a (packSign neg 0) = if a = 0x80000000#32 ∧ neg = false then 0#32 else a := by
  have hz : units (packSign neg 0) = 0 := (units_eq_zero_iff _).2 (magUnits_packSign_zero neg)
  rw [fadd, addSigned_of_finite _ _ _ h (isFinite_packSign_zero neg), hz, add_zero, signBit_packSign neg (by decide)]
  by_cases h0 : units a = 0
  · rw [if_pos h0]
    rcases eq_zero_of_units_eq_zero h h0 with rfl | rfl
    · cases neg <;> decide
    · cases neg <;> decide
  · have hne : a ≠ 0x80000000#32 := by
      rintro rfl
      exact h0 (by decide)
    rw [if_neg h0, packSign_roundMag_units h h0, if_neg fun hc => hne hc.1]

end Sys2Proof.Machine
end

section
/-! PROOFS. The single-pole kernel: RUN_SP over a written block (42_single_pole R191, R192), its first output (R191),
and the blocks of one invocation (R193). -/

namespace Sys2Proof.Machine

/-! ## One block -/

theorem exec_runSp_block {s : State} {y0 : Word} {xs : List Word} (ha : s.active = .sp) (hy : spSeed s = some y0)
    (hl : xs.length = s.blockSize) (hm : holdsBlock s.mem xs) :
    exec .runSp s = .next (complete (countBlock { s with
      spY1 := (scan (spSample s.spAlpha) y0 xs).1
      spSeeded := true
      mem := writeBlock s.mem 0 (scan (spSample s.spAlpha) y0 xs).2 })) :=
  runCommand_of_ok ha (spLoop_block hy hl hm)

/-- The seed over a written block: SP_Y1, or the block's first sample where the seed is not yet taken. -/
theorem spSeed_of_holdsBlock {s : State} {x0 : Word} {xs : List Word} (hm : holdsBlock s.mem (x0 :: xs)) :
    spSeed s = some (if s.spSeeded then s.spY1 else x0) := by
  have hfirst : readBuf s.mem 0 = some x0 := hm 0 (Nat.zero_lt_succ _)
  rw [spSeed, hfirst]
  split <;> rfl

/-- Settles O23: the statement's recurrence is `spSample`, run from the seed. -/
theorem runSpFiltersTheBlock : Obligations.RunSpFiltersTheBlock := by
  unfold Obligations.RunSpFiltersTheBlock
  intro s x0 xs ha hl hm
  exact exec_runSp_block ha (spSeed_of_holdsBlock hm) hl hm

/-! ## The first output -/

/-- A sample filtered from itself: d is +0.0, p a zero of alpha's sign, and y the sample with that zero added. -/
theorem spSample_self {alpha x : Word} (ha : isFinite alpha = true) (hx : isFinite x = true) :
    (spSample alpha x x).2 = if x = 0x80000000#32 ∧ signBit alpha = false then 0#32 else x := by
  rw [spSample, fsub_self hx, fmul_packSign_zero _ ha, fadd_packSign_zero _ hx, Bool.bne_false]

/-- Settles O35: with the seed not yet taken, the first sample is filtered from itself. -/
theorem singlePoleFirstOutputIsTheFirstSample : Obligations.SinglePoleFirstOutputIsTheFirstSample := by
  unfold Obligations.SinglePoleFirstOutputIsTheFirstSample
  intro s x0 xs ha hseeded hl hm hx halpha
  have hseed : spSeed s = some x0 := by
    rw [spSeed_of_holdsBlock hm, hseeded]
    rfl
  refine ⟨_, exec_runSp_block ha hseed hl hm, ?_⟩
  rw [← spSample_self halpha hx]
  exact holdsBlock_writeBlock s.mem (scan (spSample s.spAlpha) x0 (x0 :: xs)).2 0 (by simp)

/-! ## The seed as a part of the history -/

/-- The single-pole history with its seed (42_single_pole R191): none until the first RUN_SP of the invocation. -/
def spHistory (s : State) : Option Word :=
  if s.spSeeded then some s.spY1 else none

theorem spHistory_getD (s : State) (x : Word) : (spHistory s).getD x = if s.spSeeded then s.spY1 else x := by
  unfold spHistory
  split <;> rfl

theorem spY1_of_spHistory {s : State} {y : Word} (h : spHistory s = some y) : s.spY1 = y := by
  unfold spHistory at h
  split at h
  · exact Option.some.inj h
  · cases h

/-- One sample, which is its own seed where none is taken yet (42_single_pole R191). -/
def spSeedingSample (alpha : Word) (y1 : Option Word) (x : Word) : Option Word × Word :=
  (some (spSample alpha (y1.getD x) x).1, (spSample alpha (y1.getD x) x).2)

/-- Once seeded, it is the plain recurrence. -/
theorem scan_spSeedingSample_some (alpha y : Word) (xs : List Word) :
    scan (spSeedingSample alpha) (some y) xs =
      (some (scan (spSample alpha) y xs).1, (scan (spSample alpha) y xs).2) := by
  induction xs generalizing y with
  | nil => rfl
  | cons x rest ih => simp only [scan, spSeedingSample, Option.getD_some, ih]

/-- It is the plain recurrence from its seed, the first sample where none is taken yet. -/
theorem scan_spSeedingSample_cons (alpha : Word) (h : Option Word) (x : Word) (xs : List Word) :
    scan (spSeedingSample alpha) h (x :: xs) =
      (some (scan (spSample alpha) (h.getD x) (x :: xs)).1, (scan (spSample alpha) (h.getD x) (x :: xs)).2) := by
  simp only [scan, spSeedingSample, scan_spSeedingSample_some]

/-! ## The blocks of one invocation -/

/-- The single-pole kernel is active with this alpha, and a block is not empty (00_scope R9): over an empty one a RUN_SP
would take a seed from beyond it. -/
def SpActive (alpha : Word) (s : State) : Prop :=
  s.active = .sp ∧ s.spAlpha = alpha ∧ 1 ≤ s.blockSize

/-- While the single-pole kernel is active, SP_Y1 and SP_SEEDED are its invocation's history (10_state R58). -/
theorem filtersBy_runSp (alpha : Word) : FiltersBy .runSp (SpActive alpha) spHistory (spSeedingSample alpha) where
  same := fun ⟨ha, halpha, hpos⟩ ⟨hactive, hsize, _, hsp, _⟩ => by
    obtain ⟨hkept, hy, hseeded⟩ := hsp ha
    refine ⟨⟨hactive.trans ha, hkept.trans halpha, hsize ▸ hpos⟩, ?_⟩
    rw [spHistory, spHistory, hy, hseeded]
  run := fun {s t xs} ⟨ha, halpha, hpos⟩ hl hm hrun => by
    obtain ⟨x, rest, rfl⟩ := List.exists_cons_of_length_pos (hl ▸ hpos)
    have hexec := exec_runSp_block ha (spSeed_of_holdsBlock hm) hl hm
    obtain rfl := Host.Outcome.next.inj (hexec.symm.trans hrun)
    rw [scan_spSeedingSample_cons, spHistory_getD, ← halpha]
    exact ⟨⟨ha, rfl, hpos⟩, rfl, rfl⟩

/-- Every block of an invocation has BLOCK_SIZE samples. -/
theorem length_of_mem_filtersBlocks {i : Instr} {s t : State} {bs os : List (List Word)}
    (hf : FiltersBlocks i s bs os t) : ∀ b ∈ bs, b.length = s.blockSize := by
  induction hf with
  | nil s => simp
  | cons same len input run outLen output rest ih =>
    obtain ⟨_, hsame, _⟩ := same
    obtain ⟨hrun, _⟩ := exec_port run
    rw [hrun, hsame] at ih
    exact List.forall_mem_cons.2 ⟨len.trans hsame, ih⟩

theorem blockSize_pos_of_filtersBlocks {i : Instr} {s t : State} {bs os : List (List Word)}
    (hf : FiltersBlocks i s bs os t) (hne : bs.flatten ≠ []) : 1 ≤ s.blockSize := by
  obtain ⟨b, hb, hbne⟩ : ∃ b ∈ bs, b ≠ [] := by simpa [List.flatten_eq_nil_iff] using hne
  rw [← length_of_mem_filtersBlocks hf b hb]
  exact List.length_pos_iff.2 hbne

/-- Settles O31: the blocks concatenate for every kernel, and a Signal's first sample is the seed not yet taken. -/
theorem singlePoleContinuity : Obligations.SinglePoleContinuity := by
  unfold Obligations.SinglePoleContinuity
  intro s t bs os x0 xs ha hf hflat
  have hpos : 1 ≤ s.blockSize := blockSize_pos_of_filtersBlocks hf (by rw [hflat]; exact List.cons_ne_nil _ _)
  have hscan := scan_flatten_of_filtersBlocks (filtersBy_runSp s.spAlpha) ⟨ha, rfl, hpos⟩ hf
  rw [hflat, scan_spSeedingSample_cons, spHistory_getD] at hscan
  obtain ⟨hhist, hout⟩ := Prod.mk.inj hscan
  rw [hflat]
  exact Prod.ext (spY1_of_spHistory hhist) hout

end Sys2Proof.Machine
end

section
/-! PROOFS. The primitives where the exact result is a value of binary32 (00_scope R12, R13): no other value is nearest to
it, so 1.0 is neutral for a product and the zeros for a sum and a difference, as real numbers. -/

namespace Sys2Proof.Machine

/-- `y` is finite and the same real number as `x`, though perhaps the other zero. -/
structure SameReal (x y : Word) : Prop where
  finite : isFinite y = true
  units_eq : units y = units x

theorem SameReal.trans {x y z : Word} (hxy : SameReal x y) (hyz : SameReal y z) : SameReal x z :=
  ⟨hyz.finite, hyz.units_eq.trans hxy.units_eq⟩

theorem realOf_eq_zero_of_sameReal {z : Word} (h : SameReal 0#32 z) : realOf z = 0 := by
  have hzero : units z = 0 := h.units_eq
  rw [realOf, hzero, Int.cast_zero, zero_div]

theorem realOf_one : realOf 0x3F800000#32 = 1 := by
  have hunits : units 0x3F800000#32 = 2 ^ 149 := by decide
  rw [realOf, hunits]
  norm_num

theorem units_eq_of_realOf_eq {u v : Word} (h : realOf u = realOf v) : units u = units v := by
  rw [realOf, realOf, div_left_inj' (by positivity)] at h
  exact_mod_cast h

theorem abs_realOf_lt_overflowBound {v : Word} (h : isFinite v = true) : |realOf v| < overflowBound := by
  have habs : |realOf v| = (magUnits v : ℝ) / 2 ^ (149 + 0) := abs_flipSign_div (signBit v) (magUnits v) 0
  rw [habs, ← not_le, overflowBound_le_iff, ← roundMag_eq_inf_iff]
  intro hinf
  have hpack := packSign_roundMag_magUnits h
  rw [hinf] at hpack
  have hnot := isInf_of_isFinite h
  rw [← hpack, isInf_packSign_inf] at hnot
  cases hnot

/-- A value of binary32 is its own nearest value, and no other is as near. -/
theorem sameReal_of_isRounded {x v : Word} (hx : isFinite x = true) (h : IsRounded (realOf x) v) : SameReal x v := by
  obtain ⟨_, hnearest, _⟩ := h
  obtain ⟨hfin, hle⟩ := hnearest (abs_realOf_lt_overflowBound hx)
  have hzero : |realOf v - realOf x| ≤ 0 := by simpa using (hle x hx).1
  exact ⟨hfin, units_eq_of_realOf_eq (sub_eq_zero.1 (abs_nonpos_iff.1 hzero))⟩

theorem sameReal_fmul_one {x : Word} (hx : isFinite x = true) : SameReal x (fmul 0x3F800000#32 x) := by
  have hprod := productsAreCorrectlyRounded 0x3F800000#32 x (by decide) hx
  rw [realOf_one, one_mul] at hprod
  exact sameReal_of_isRounded hx hprod

theorem sameReal_zero_fmul {a : Word} (ha : isFinite a = true) : SameReal 0#32 (fmul 0#32 a) := by
  have hzero : realOf 0#32 = 0 := realOf_eq_zero_of_sameReal ⟨by decide, rfl⟩
  have hprod := productsAreCorrectlyRounded 0#32 a (by decide) ha
  rw [hzero, zero_mul, ← hzero] at hprod
  exact sameReal_of_isRounded (by decide) hprod

theorem SameReal.fadd_zero {x y z : Word} (hy : SameReal x y) (hz : SameReal 0#32 z) : SameReal x (fadd y z) := by
  obtain ⟨hsum, _⟩ := sumsAndDifferencesAreCorrectlyRounded y z hy.finite hz.finite
  rw [realOf_eq_zero_of_sameReal hz, add_zero] at hsum
  exact hy.trans (sameReal_of_isRounded hy.finite hsum)

theorem SameReal.fsub_zero {x y z : Word} (hy : SameReal x y) (hz : SameReal 0#32 z) : SameReal x (fsub y z) := by
  obtain ⟨_, hdiff⟩ := sumsAndDifferencesAreCorrectlyRounded y z hy.finite hz.finite
  rw [realOf_eq_zero_of_sameReal hz, sub_zero] at hdiff
  exact hy.trans (sameReal_of_isRounded hy.finite hdiff)

end Sys2Proof.Machine
end

section
/-! PROOFS. The biquad kernel: RUN_BQ over a written block (43_biquad R211) and over the blocks of one invocation (R212),
and the identity coefficients (R215). -/

namespace Sys2Proof.Machine

/-! ## One block -/

theorem exec_runBq_block {s : State} {xs : List Word} (ha : s.active = .bq) (hl : xs.length = s.blockSize)
    (hm : holdsBlock s.mem xs) :
    exec .runBq s = .next (complete (countBlock { s with
      bqHist := (scan (bqSample s.bqCoeffs) s.bqHist xs).1
      mem := writeBlock s.mem 0 (scan (bqSample s.bqCoeffs) s.bqHist xs).2 })) :=
  runCommand_of_ok ha (bqLoop_block hl hm)

/-- Settles O24: the statement's recurrence is `bqSample`. -/
theorem runBqFiltersTheBlock : Obligations.RunBqFiltersTheBlock := by
  unfold Obligations.RunBqFiltersTheBlock
  intro s xs ha hl hm
  exact exec_runBq_block ha hl hm

/-! ## The blocks of one invocation -/

/-- The biquad is active with these coefficients, which its open invocation locks (10_state R57). -/
def BqActive (c : BqCoeffs) (s : State) : Prop :=
  s.active = .bq ∧ s.bqCoeffs = c

/-- While the biquad is active, BQ_X1 to BQ_Y2 are its invocation's history (10_state R58). -/
theorem filtersBy_runBq (c : BqCoeffs) : FiltersBy .runBq (BqActive c) State.bqHist (bqSample c) where
  same := fun ⟨ha, hc⟩ ⟨hactive, _, _, _, hbq, _⟩ => by
    obtain ⟨hcoeffs, hhist⟩ := hbq ha
    exact ⟨⟨hactive.trans ha, hcoeffs.trans hc⟩, hhist⟩
  run := fun ⟨ha, hc⟩ hl hm hrun => by
    obtain rfl := Host.Outcome.next.inj ((exec_runBq_block ha hl hm).symm.trans hrun)
    rw [← hc]
    exact ⟨⟨ha, rfl⟩, rfl, rfl⟩

/-- Settles O32: the blocks concatenate for every kernel, the biquad's four history registers among them. -/
theorem biquadContinuity : Obligations.BiquadContinuity := by
  unfold Obligations.BiquadContinuity
  intro s t bs os ha hf
  exact scan_flatten_of_filtersBlocks (filtersBy_runBq s.bqCoeffs) ⟨ha, rfl⟩ hf

/-! ## The identity coefficients -/

/-- B0 = 1.0 and the others +0.0 (43_biquad R215). -/
def bqIdentity : BqCoeffs :=
  ⟨0x3F800000#32, 0#32, 0#32, 0#32, 0#32⟩

/-- No register of the biquad's history holds an infinity or a NaN. -/
structure FiniteBqHist (h : BqHist) : Prop where
  x1 : isFinite h.x1 = true
  x2 : isFinite h.x2 = true
  y1 : isFinite h.y1 = true
  y2 : isFinite h.y2 = true

/-- A sample times 1.0, with the zeros that the history's products are added and subtracted. -/
theorem sameReal_bqOutput_identity {h : BqHist} {x : Word} (hh : FiniteBqHist h) (hx : isFinite x = true) :
    SameReal x (bqOutput bqIdentity h x) :=
  ((((sameReal_fmul_one hx).fadd_zero (sameReal_zero_fmul hh.x1)).fadd_zero (sameReal_zero_fmul hh.x2)).fsub_zero
    (sameReal_zero_fmul hh.y1)).fsub_zero (sameReal_zero_fmul hh.y2)

/-- Over finite samples the history stays finite, so the identity reproduces every sample. -/
theorem forall₂_sameReal_scan_identity {h : BqHist} {xs : List Word} (hh : FiniteBqHist h)
    (hxs : ∀ x ∈ xs, isFinite x = true) : List.Forall₂ SameReal xs (scan (bqSample bqIdentity) h xs).2 := by
  induction xs generalizing h with
  | nil => exact .nil
  | cons x rest ih =>
    obtain ⟨hx, hrest⟩ := List.forall_mem_cons.1 hxs
    have hy := sameReal_bqOutput_identity hh hx
    exact .cons hy (ih ⟨hx, hh.x1, hy.finite, hh.y1⟩ hrest)

/-- Settles O34: the outputs that RUN_BQ writes are the samples as real numbers. -/
theorem identityBiquadReproducesFiniteSamples : Obligations.IdentityBiquadReproducesFiniteSamples := by
  unfold Obligations.IdentityBiquadReproducesFiniteSamples
  intro s xs ha hc hx1 hx2 hy1 hy2 hl hm hxs
  have hsame : List.Forall₂ SameReal xs (scan (bqSample s.bqCoeffs) s.bqHist xs).2 := by
    rw [hc]
    exact forall₂_sameReal_scan_identity ⟨hx1, hx2, hy1, hy2⟩ hxs
  refine ⟨_, exec_runBq_block ha hl hm, fun i x hi => ?_⟩
  obtain ⟨hlt, rfl⟩ := List.getElem?_eq_some_iff.1 hi
  have hout := hsame.length_eq ▸ hlt
  have hread := (holdsBlock_writeBlock s.mem _ i hout).trans (List.getElem?_eq_getElem hout)
  have hsample := hsame.get hlt hout
  exact ⟨_, hread, hsample.finite, hsample.units_eq⟩

end Sys2Proof.Machine
end

section
/-! PROOFS. Writing back what is there: a word, and a block, that is written where it was read leaves every byte of the
memory as it was (20_memory R82, R90). -/

namespace Sys2Proof.Machine

theorem lane_append_bytes (b3 b2 b1 b0 : Byte) :
    lane (b3 ++ b2 ++ b1 ++ b0) 0 = b0 ∧ lane (b3 ++ b2 ++ b1 ++ b0) 1 = b1 ∧
      lane (b3 ++ b2 ++ b1 ++ b0) 2 = b2 ∧ lane (b3 ++ b2 ++ b1 ++ b0) 3 = b3 := by
  refine ⟨?_, ?_, ?_, ?_⟩ <;> rw [lane]
  · exact BitVec.extractLsb'_append_eq_right
  · rw [BitVec.extractLsb'_append_eq_of_le (by decide)]
    exact BitVec.extractLsb'_append_eq_right
  · repeat rw [BitVec.extractLsb'_append_eq_of_le (by decide)]
    exact BitVec.extractLsb'_append_eq_right
  · repeat rw [BitVec.extractLsb'_append_eq_of_le (by decide)]
    exact BitVec.extractLsb'_eq_self

/-- The four bytes of a word that has been read. -/
theorem readByte_of_readWord {m : Memory} {a : Nat} {v : Word} (h : readWord m a = some v) {k : Nat} (hk : k < 4) :
    readByte m (a + k) = some (lane v k) := by
  unfold readWord at h
  split at h
  · next b0 b1 b2 b3 h0 h1 h2 h3 =>
    obtain rfl := Option.some.inj h
    obtain ⟨l0, l1, l2, l3⟩ := lane_append_bytes b3 b2 b1 b0
    have : k = 0 ∨ k = 1 ∨ k = 2 ∨ k = 3 := by omega
    rcases this with rfl | rfl | rfl | rfl
    · rw [l0, ← h0, Nat.add_zero]
    · rw [l1, h1]
    · rw [l2, h2]
    · rw [l3, h3]
  · cases h

theorem readByte_writeWord_of_readWord {m : Memory} {a : Nat} {v : Word} (h : readWord m a = some v) (x : Nat) :
    readByte (writeWord m a v) x = readByte m x := by
  by_cases hout : x < a ∨ a + 4 ≤ x
  · exact readByte_writeWord_of_outside m v hout
  · obtain ⟨k, rfl⟩ : ∃ k, x = a + k := ⟨x - a, by omega⟩
    have hk : k < 4 := by omega
    rw [readByte_writeWord_lane m a v hk, readByte_of_readWord h hk]

theorem readByte_writeBlock_of_holds {m : Memory} {i : Nat} {xs : List Word}
    (hm : ∀ j, j < xs.length → readBuf m (i + j) = xs[j]?) (x : Nat) :
    readByte (writeBlock m i xs) x = readByte m x := by
  induction xs generalizing m i with
  | nil => rfl
  | cons y rest ih =>
    have hy : readBuf m i = some y := by simpa using hm 0 (by simp)
    have hrest : ∀ j, j < rest.length → readBuf (writeBuf m i y) (i + 1 + j) = rest[j]? := fun j hj => by
      rw [readBuf_writeBuf_of_ne _ _ (by omega), Nat.add_assoc, Nat.add_comm 1 j]
      exact hm (j + 1) (Nat.succ_lt_succ hj)
    rw [writeBlock, ih hrest, writeBuf, readByte_writeWord_of_readWord hy]

end Sys2Proof.Machine
end

section
/-! PROOFS. The comb kernel: RUN_COMB over a written block in each variant (44_comb R230, R232, R233), over the blocks of
one invocation (R234), and the variant PASS (R232). -/

namespace Sys2Proof.Machine

/-! ## One block -/

theorem exec_runComb_block {s : State} {xs : List Word} (ha : s.active = .comb) (hl : xs.length = s.blockSize)
    (hm : holdsBlock s.mem xs) :
    exec .runComb s = .next (complete (countBlock { s with
      combHist := (scan (combSample s.combVar s.combG1 s.combG2) s.combHist xs).1
      mem := writeBlock s.mem 0 (scan (combSample s.combVar s.combG1 s.combG2) s.combHist xs).2 })) :=
  runCommand_of_ok ha (combLoop_block hl hm)

/-- Settles O25: the statement's recurrence is `combSample` in the selected variant. -/
theorem runCombFiltersTheBlock : Obligations.RunCombFiltersTheBlock := by
  unfold Obligations.RunCombFiltersTheBlock
  intro s xs ha hl hm
  exact exec_runComb_block ha hl hm

/-! ## The blocks of one invocation -/

/-- The comb is active in this variant and with these gains, all of which its open invocation locks (10_state R57). -/
def CombActive (v : CombVar) (g1 g2 : Word) (s : State) : Prop :=
  s.active = .comb ∧ s.combVar = v ∧ s.combG1 = g1 ∧ s.combG2 = g2

/-- While the comb is active, its two windows are its invocation's history (10_state R58). -/
theorem filtersBy_runComb (v : CombVar) (g1 g2 : Word) :
    FiltersBy .runComb (CombActive v g1 g2) State.combHist (combSample v g1 g2) where
  same := fun ⟨ha, hv, h1, h2⟩ ⟨hactive, _, _, _, _, hcomb⟩ => by
    obtain ⟨hg1, hg2, hvar, hhist⟩ := hcomb ha
    exact ⟨⟨hactive.trans ha, hvar.trans hv, hg1.trans h1, hg2.trans h2⟩, hhist⟩
  run := fun ⟨ha, hv, h1, h2⟩ hl hm hrun => by
    obtain rfl := Host.Outcome.next.inj ((exec_runComb_block ha hl hm).symm.trans hrun)
    rw [← hv, ← h1, ← h2]
    exact ⟨⟨ha, rfl, rfl, rfl⟩, rfl, rfl⟩

/-- Settles O33: the blocks concatenate for every kernel, both of the comb's windows among the histories. -/
theorem combContinuity : Obligations.CombContinuity := by
  unfold Obligations.CombContinuity
  intro s t bs os ha hf
  exact scan_flatten_of_filtersBlocks (filtersBy_runComb s.combVar s.combG1 s.combG2) ⟨ha, rfl, rfl, rfl⟩ hf

/-! ## The variant PASS -/

/-- PASS does no arithmetic, so a sample of any kind comes out as it went in. -/
theorem scan_combSample_pass (g1 g2 : Word) (h : CombHist) (xs : List Word) :
    (scan (combSample .pass g1 g2) h xs).2 = xs := by
  induction xs generalizing h with
  | nil => rfl
  | cons x rest ih => rw [scan, ih, combSample, combOutput]

/-- Settles O36: RUN_COMB writes back the block that the buffer holds. -/
theorem passCombLeavesTheBufferAlone : Obligations.PassCombLeavesTheBufferAlone := by
  unfold Obligations.PassCombLeavesTheBufferAlone
  intro s xs ha hv hl hm
  have hrun := exec_runComb_block ha hl hm
  rw [hv, scan_combSample_pass] at hrun
  refine ⟨_, hrun, holdsBlock_writeBlock s.mem xs, readByte_writeBlock_of_holds fun j hj => ?_⟩
  rw [Nat.zero_add]
  exact hm j hj

end Sys2Proof.Machine
end

section
/-! PROOFS. The coefficient generators GEN_SP and GEN_BQ (45_coefficients R255 to R260): both are one template, the check
of the lock, the check of the inputs and the write, and differ in their kernel, their range and what they write. -/

namespace Sys2Proof.Machine

/-! ## The template of a generator -/

/-- A generator of kernel k's coefficients: locked while k is open, refused for inputs out of range, and else `u`, the
state with the coefficients written (45_coefficients R257, R260). -/
def generatorCommand (i : Instr) (k : Kernel) (valid : Bool) (u s : State) : Result :=
  if s.active = k then failCommand i .coefLocked s
  else if valid then .next (complete u)
  else failCommand i .invalidParameter s

theorem exec_genSp_eq (s : State) :
    exec .genSp s = generatorCommand .genSp .sp (spValid s.spW) { s with spAlpha := Config.genSP s.spW } s :=
  rfl

theorem exec_genBq_eq (s : State) :
    exec .genBq s =
      generatorCommand .genBq .bq (bqValid s.fs s.fc s.q) { s with bqCoeffs := Config.genBQ s.fs s.fc s.q } s :=
  rfl

section
variable {i : Instr} {k : Kernel} {valid : Bool} {u s : State}

theorem generatorCommand_of_locked (h : s.active = k) :
    generatorCommand i k valid u s = .next (complete (raiseError .coefLocked (encode i) s)) :=
  if_pos h

theorem generatorCommand_of_valid (h : s.active ≠ k) (hv : valid = true) :
    generatorCommand i k valid u s = .next (complete u) := by
  rw [generatorCommand, if_neg h, if_pos hv]

theorem generatorCommand_of_invalid (h : s.active ≠ k) (hv : valid ≠ true) :
    generatorCommand i k valid u s = .next (complete (raiseError .invalidParameter (encode i) s)) := by
  rw [generatorCommand, if_neg h, if_neg hv]
  rfl

end

/-- ACTIVE and the verdict on the inputs alone decide whether a generator fails, and with which error. -/
theorem generatorCommand_uniform (i : Instr) (k : Kernel) (valid : Bool) (a : Kernel) :
    (∃ c, ∀ u s : State, s.active = a →
      generatorCommand i k valid u s = .next (complete (raiseError c (encode i) s))) ∨
    ∀ u s : State, s.active = a → generatorCommand i k valid u s = .next (complete u) := by
  by_cases hlock : a = k
  · exact .inl ⟨_, fun _ _ ha => generatorCommand_of_locked (ha.trans hlock)⟩
  by_cases hv : valid = true
  · exact .inr fun _ _ ha => generatorCommand_of_valid (ha ▸ hlock) hv
  · exact .inl ⟨_, fun _ _ ha => generatorCommand_of_invalid (ha ▸ hlock) hv⟩

theorem generatorCommand_next_next {i : Instr} {k : Kernel} {valid : Bool} {u u' s s' t t' : State}
    (ha : s.active = s'.active) (h : generatorCommand i k valid u s = .next t)
    (h' : generatorCommand i k valid u' s' = .next t') :
    (∃ c, t = complete (raiseError c (encode i) s) ∧ t' = complete (raiseError c (encode i) s')) ∨
    (t = complete u ∧ t' = complete u') := by
  rcases generatorCommand_uniform i k valid s'.active with ⟨c, hfail⟩ | hwrite
  · rw [hfail u s ha, Host.Outcome.next.injEq] at h
    rw [hfail u' s' rfl, Host.Outcome.next.injEq] at h'
    exact .inl ⟨c, h.symm, h'.symm⟩
  · rw [hwrite u s ha, Host.Outcome.next.injEq] at h
    rw [hwrite u' s' rfl, Host.Outcome.next.injEq] at h'
    exact .inr ⟨h.symm, h'.symm⟩

/-! ## The statements -/

/-- sp_valid in the patterns of 45_coefficients R259. -/
theorem spValid_iff (v : Word) : spValid v = true ↔ 0x00000001 ≤ v.toNat ∧ v.toNat ≤ 0x40490FDA := by
  rw [spValid, Bool.and_eq_true, decide_eq_true_iff, decide_eq_true_iff]

/-- Settles O40, check by check. -/
theorem genSpChecksThenWritesAlpha : Obligations.GenSpChecksThenWritesAlpha := by
  unfold Obligations.GenSpChecksThenWritesAlpha
  intro s
  rw [exec_genSp_eq]
  split_ifs with hlock hrange
  · exact generatorCommand_of_locked hlock
  · exact generatorCommand_of_valid hlock ((spValid_iff s.spW).2 hrange)
  · exact generatorCommand_of_invalid hlock (mt (spValid_iff s.spW).1 hrange)

/-- Settles O41, check by check. -/
theorem genBqChecksThenWritesCoefficients : Obligations.GenBqChecksThenWritesCoefficients := by
  unfold Obligations.GenBqChecksThenWritesCoefficients
  intro s
  rw [exec_genBq_eq]
  split_ifs with hlock hvalid
  · exact generatorCommand_of_locked hlock
  · exact generatorCommand_of_valid hlock hvalid
  · exact generatorCommand_of_invalid hlock hvalid

/-- Settles O44: where all that a generator reads is the same, both runs record the same error over the same capture or
write the same coefficients. -/
theorem generatorsDependOnTheirInputsAlone : Obligations.GeneratorsDependOnTheirInputsAlone := by
  unfold Obligations.GeneratorsDependOnTheirInputsAlone
  intro s s' t t' ha herr hovf hcode hinfo
  constructor
  · intro hw halpha h h'
    rw [exec_genSp_eq, hw] at h
    rcases generatorCommand_next_next ha h h' with ⟨c, rfl, rfl⟩ | ⟨rfl, rfl⟩
    · simp [halpha, herr, hovf, hcode, hinfo]
    · simp [herr, hovf, hcode, hinfo]
  · intro hfs hfc hq hcoeffs h h'
    rw [exec_genBq_eq, hfs, hfc, hq] at h
    rcases generatorCommand_next_next ha h h' with ⟨c, rfl, rfl⟩ | ⟨rfl, rfl⟩
    · simp [hcoeffs, herr, hovf, hcode, hinfo]
    · simp [herr, hovf, hcode, hinfo]

end Sys2Proof.Machine
end

section
/-! PROOFS. What a host write stores while the CORE is idle: the generator inputs and the coefficients with their lock
(45_coefficients R250, R252), and CTRL with the lock on COMB_VAR (10_state R33, 45_coefficients R251). -/

namespace Sys2Proof.Machine

/-! ## A register that stores the host's word -/

/-- The generator inputs and the coefficients (10_state R40 to R46). -/
abbrev Stores (r : Reg) : Prop :=
  r ∈ [Reg.fs, Reg.fc, Reg.q, Reg.spW, Reg.spAlpha, Reg.b0, Reg.b1, Reg.b2, Reg.a1, Reg.a2, Reg.combG1, Reg.combG2]

/-- A store changes what one register reads, to the word stored, and what no other reads. -/
theorem readReg_storeReg {r : Reg} (h : Stores r) (v : Word) (s : State) :
    readReg (storeReg r v s) = Function.update (readReg s) r v := by
  funext r'
  unfold Stores at h
  fin_cases h <;> cases r' <;> rfl

theorem readReg_respond (x : Response) (s : State) : readReg (respond x s) = readReg s :=
  rfl

theorem offsetInfo_regOffset (r : Reg) :
    offsetInfo (BitVec.ofNat 17 (regOffset r)) = BitVec.ofNat 32 (regOffset r) := by
  cases r <;> rfl

theorem writeRegIdle_of_stores {r : Reg} (h : Stores r) (off : BitVec 17) (v : Word) (s : State) :
    writeRegIdle off r v s =
      if ownerOf r = some s.active then raiseError .coefLocked (offsetInfo off) s else storeReg r v s := by
  unfold Stores at h
  fin_cases h <;> rfl

section
variable {s : State} {r : Reg} (v : Word) (hr : s.rstN = true) (hl : s.cmdLatch = none) (hs : Stores r)
include hr hl hs

theorem busAccess_write_of_locked (h : ownerOf r = some s.active) :
    busAccess (.write (BitVec.ofNat 17 (regOffset r)) 4 v) s =
      .next { raiseError .coefLocked (BitVec.ofNat 32 (regOffset r)) s with resp := .okay } := by
  rw [busAccess_write_reg_of_idle r v hr hl, writeRegIdle_of_stores hs, if_pos h, offsetInfo_regOffset]
  rfl

/-- A write that no lock drops stores its word and nothing else. -/
theorem busAccess_write_of_unlocked (h : ownerOf r ≠ some s.active) :
    ∃ t, busAccess (.write (BitVec.ofNat 17 (regOffset r)) 4 v) s = .next t ∧ readReg t r = v ∧
      (∀ r', r' ≠ r → readReg t r' = readReg s r') ∧ t.mem = s.mem ∧ t.cmdLatch = none ∧ t.resp = .okay := by
  refine ⟨respond .okay (storeReg r v s), ?_, ?_, fun r' hne => ?_, by simp, by simpa using hl, rfl⟩
  · rw [busAccess_write_reg_of_idle r v hr hl, writeRegIdle_of_stores hs, if_neg h]
  · rw [readReg_respond, readReg_storeReg hs, Function.update_self]
  · rw [readReg_respond, readReg_storeReg hs, Function.update_of_ne hne]

end

/-- Settles O51: each row's kernel is the owner of its register. -/
theorem coefficientWriteObeysTheLock : Obligations.CoefficientWriteObeysTheLock := by
  unfold Obligations.CoefficientWriteObeysTheLock
  intro s v hr hl p hp
  obtain ⟨hs, howner⟩ : Stores p.1 ∧ ownerOf p.1 = some p.2 := by
    revert p
    decide
  split_ifs with hlock
  · exact busAccess_write_of_locked v hr hl hs (hlock ▸ howner)
  · refine busAccess_write_of_unlocked v hr hl hs fun h => hlock ?_
    exact Option.some.inj (h.symm.trans howner)

/-- Settles O52: no kernel owns a generator's input. -/
theorem generatorInputWritesAreNeverLocked : Obligations.GeneratorInputWritesAreNeverLocked := by
  unfold Obligations.GeneratorInputWritesAreNeverLocked
  intro s v hr hl r hmem
  obtain ⟨hs, howner⟩ : Stores r ∧ ownerOf r = none := by
    revert r
    decide
  exact busAccess_write_of_unlocked v hr hl hs (by simp [howner])

/-! ## CTRL -/

/-- A code selects the one structure that has it (10_state R33). -/
theorem combVarOf_eq_iff (c : BitVec 2) (k : CombVar) : combVarOf c = k ↔ c = k.code := by
  revert c
  cases k <;> decide

theorem code_combVarOf (c : BitVec 2) : (combVarOf c).code = c :=
  ((combVarOf_eq_iff c _).1 rfl).symm

/-- The fields of CTRL, each a part of the concatenation (10_state R33). -/
theorem ctrlWord_fields (s : State) :
    (ctrlWord s).getLsbD 0 = s.ieDone ∧ (ctrlWord s).getLsbD 1 = s.ieErr ∧ (ctrlWord s).extractLsb' 2 2 = 0#2 ∧
    (ctrlWord s).extractLsb' 4 2 = s.combVar.code ∧ (ctrlWord s).extractLsb' 6 26 = 0#26 := by
  unfold ctrlWord
  refine ⟨by simp only [BitVec.getLsbD_append]; simp, by simp only [BitVec.getLsbD_append]; simp, ?_, ?_, ?_⟩ <;>
    repeat rw [BitVec.extractLsb'_append_eq_of_le (by decide)]
  · exact BitVec.extractLsb'_append_eq_right
  · exact BitVec.extractLsb'_append_eq_right
  · exact BitVec.extractLsb'_eq_self

/-- After a performed write CTRL reads as the written word with its reserved bits 0, bit by bit (10_state R33). -/
theorem ctrlWord_setCtrl (v : Word) (s : State) : ctrlWord (setCtrl v s) = v &&& 0x00000033#32 := by
  simp only [ctrlWord, setCtrl_combVar, setCtrl_ieDone, setCtrl_ieErr, ctrlVarField, code_combVarOf]
  apply BitVec.eq_of_getLsbD_eq
  intro i hi
  simp only [BitVec.getLsbD_append, BitVec.getLsbD_and, BitVec.getLsbD_extractLsb', BitVec.getLsbD_ofBool]
  interval_cases i <;> simp

/-- The lock on COMB_VAR, in the codes that a host reads and writes (45_coefficients R251). -/
theorem ctrlVarField_ne_iff (v : Word) (s : State) :
    ctrlVarField v ≠ s.combVar ↔ v.extractLsb' 4 2 ≠ (ctrlWord s).extractLsb' 4 2 := by
  obtain ⟨_, _, _, hvar, _⟩ := ctrlWord_fields s
  rw [hvar, ctrlVarField, Ne, combVarOf_eq_iff]

theorem busAccess_write_ctrl_of_idle {s : State} (v : Word) (hr : s.rstN = true) (hl : s.cmdLatch = none) :
    busAccess (.write 0x00004#17 4 v) s = .next (respond .okay (writeCtrl 0x00004#17 v s)) :=
  busAccess_write_reg_of_idle .ctrl v hr hl

/-- Settles O12: the lock compares codes, and a performed write stores its three fields. -/
theorem ctrlWriteObeysTheVariantLock : Obligations.CtrlWriteObeysTheVariantLock := by
  unfold Obligations.CtrlWriteObeysTheVariantLock
  refine ⟨fun s => ?_, fun s v hr hl => ?_⟩
  · obtain ⟨hdone, herr, hlow, hvar, hhigh⟩ := ctrlWord_fields s
    refine ⟨hdone, herr, hlow, ?_, hhigh⟩
    rw [hvar]
    cases s.combVar <;> rfl
  simp only [busAccess_write_ctrl_of_idle v hr hl, ← ctrlVarField_ne_iff]
  split_ifs with hlock
  · rw [writeCtrl, if_pos hlock]
    rfl
  · have hvar : ∀ k : CombVar, v.extractLsb' 4 2 = k.code → ctrlVarField v = k :=
      fun k => (combVarOf_eq_iff _ k).2
    rw [writeCtrl, if_neg hlock]
    exact ⟨_, rfl, ctrlWord_setCtrl v s, rfl, rfl, hvar .full, hvar .ffOnly, hvar .fbOnly, hvar .pass, rfl⟩

end Sys2Proof.Machine
end

section
/-! PROOFS. What the generators accept, over the reals (45_coefficients R259, R261): the patterns with sign 0 rise as
their real values do, and a comparison of real values is one of units of 2^-149. -/

namespace Sys2Proof.Machine

/-! ## Real values in units -/

theorem realOf_pos_iff (v : Word) : 0 < realOf v ↔ 0 < units v := by
  rw [realOf, div_pos_iff_of_pos_right (by positivity), Int.cast_pos]

theorem two_mul_realOf_lt_iff (v : Word) (n : ℤ) : 2 * realOf v < n ↔ 2 * units v < n * 2 ^ 149 := by
  rw [realOf, ← mul_div_assoc, div_lt_iff₀ (by positivity)]
  exact_mod_cast Iff.rfl

/-- Settles O43: each comparison of units is the one of the real values. -/
theorem bqValidIsBelowNyquist : Obligations.BqValidIsBelowNyquist := by
  unfold Obligations.BqValidIsBelowNyquist
  intro fs fc q
  rw [realOf_pos_iff, realOf_pos_iff, two_mul_realOf_lt_iff]
  simp only [bqValid, Bool.and_eq_true, decide_eq_true_iff, and_assoc]

/-! ## The order of the patterns -/

/-- One more in the pattern is one more unit in the last place, a carry into the exponent included. -/
theorem magUnits_packSign_lt_succ (neg : Bool) {n : Nat} (h : n + 1 < 2 ^ 31) :
    magUnits (packSign neg n) < magUnits (packSign neg (n + 1)) := by
  obtain ⟨e, q, rfl, hq, he⟩ : ∃ e q, n = e * 2 ^ 23 + q ∧ q < 2 ^ 24 ∧ (e ≠ 0 → 2 ^ 23 ≤ q) :=
    ⟨n / 2 ^ 23 - 1, n - (n / 2 ^ 23 - 1) * 2 ^ 23, by omega, by omega, by omega⟩
  rw [add_assoc] at h ⊢
  rw [magUnits_packSign neg hq.le he (by omega), magUnits_packSign neg hq (by omega) h]
  exact Nat.mul_lt_mul_of_pos_right q.lt_succ_self (by positivity)

theorem strictMonoOn_magUnits_packSign (neg : Bool) :
    StrictMonoOn (fun n => magUnits (packSign neg n)) (Set.Iio (2 ^ 31)) :=
  strictMonoOn_of_lt_add_one Set.ordConnected_Iio fun _ _ _ h => magUnits_packSign_lt_succ neg h

theorem packSign_false_toNat (v : Word) : packSign false v.toNat = v := by
  simp [packSign]

theorem signBit_of_toNat_lt {v : Word} (h : v.toNat < 2 ^ 31) : signBit v = false := by
  rw [← packSign_false_toNat v, signBit_packSign false h]

theorem toNat_lt_of_signBit {v : Word} (h : signBit v = false) : v.toNat < 2 ^ 31 :=
  BitVec.toNat_lt_of_msb_false h

theorem units_of_signBit {v : Word} (h : signBit v = false) : units v = magUnits v := by
  simp [units, h]

/-- Among the patterns with sign 0 the order of the real values is that of the patterns. -/
theorem realOf_lt_realOf_iff {u v : Word} (hu : u.toNat < 2 ^ 31) (hv : v.toNat < 2 ^ 31) :
    realOf u < realOf v ↔ u.toNat < v.toNat := by
  have hmono := (strictMonoOn_magUnits_packSign false).lt_iff_lt (Set.mem_Iio.2 hu) (Set.mem_Iio.2 hv)
  simp only [packSign_false_toNat] at hmono
  rw [realOf, realOf, div_lt_div_iff_of_pos_right (by positivity), Int.cast_lt,
    units_of_signBit (signBit_of_toNat_lt hu), units_of_signBit (signBit_of_toNat_lt hv), Int.ofNat_lt, hmono]

theorem toNat_lt_of_realOf_pos {v : Word} (h : 0 < realOf v) : v.toNat < 2 ^ 31 := by
  refine toNat_lt_of_signBit (Bool.eq_false_iff.2 fun hs => ?_)
  have hunits := (realOf_pos_iff v).1 h
  rw [units, if_pos hs] at hunits
  omega

theorem isFinite_of_toNat_lt {v : Word} (h : v.toNat < 0x7F800000) : isFinite v = true := by
  rw [← packSign_false_toNat v]
  exact isFinite_packSign false h

/-! ## The single-pole cutoff -/

/-- 0x40490FDA, the last binary32 below pi (45_coefficients R259). -/
theorem realOf_40490FDA_lt_pi : realOf 0x40490FDA#32 < Real.pi := by
  have hunits : units 0x40490FDA#32 = 13176794 * 2 ^ 127 := by decide
  rw [realOf, hunits]
  refine lt_trans ?_ Real.pi_gt_d20
  norm_num

/-- 0x40490FDB, the nearest binary32 to pi, is above it (45_coefficients R259). -/
theorem pi_lt_realOf_40490FDB : Real.pi < realOf 0x40490FDB#32 := by
  have hunits : units 0x40490FDB#32 = 13176795 * 2 ^ 127 := by decide
  rw [realOf, hunits]
  refine Real.pi_lt_d20.trans ?_
  norm_num

theorem realOf_pos_iff_of_toNat_lt {v : Word} (h : v.toNat < 2 ^ 31) : 0 < realOf v ↔ 0x00000001 ≤ v.toNat := by
  have hzero : realOf 0#32 = 0 := realOf_eq_zero_of_sameReal ⟨by decide, rfl⟩
  rw [← hzero, realOf_lt_realOf_iff (by decide) h]
  rfl

/-- No binary32 lies between the two patterns next to pi. -/
theorem realOf_lt_pi_iff_of_toNat_lt {v : Word} (h : v.toNat < 2 ^ 31) :
    realOf v < Real.pi ↔ v.toNat ≤ 0x40490FDA := by
  constructor
  · intro hpi
    have hlt := (realOf_lt_realOf_iff h (by decide)).1 (hpi.trans pi_lt_realOf_40490FDB)
    exact Nat.le_of_lt_succ hlt
  · intro hle
    have hge : ¬ realOf 0x40490FDA#32 < realOf v := by
      rw [realOf_lt_realOf_iff (by decide) h]
      exact not_lt.2 hle
    exact (not_lt.1 hge).trans_lt realOf_40490FDA_lt_pi

/-- Settles O42: among the patterns with sign 0 both bounds are bounds on the pattern, and no other is positive. -/
theorem spValidIsBetweenZeroAndPi : Obligations.SpValidIsBetweenZeroAndPi := by
  unfold Obligations.SpValidIsBetweenZeroAndPi
  refine fun v => ⟨?_, spValid_iff v⟩
  rw [spValid_iff]
  constructor
  · rintro ⟨hlo, hhi⟩
    have hv : v.toNat < 2 ^ 31 := by omega
    exact ⟨isFinite_of_toNat_lt (by omega), (realOf_pos_iff_of_toNat_lt hv).2 hlo,
      (realOf_lt_pi_iff_of_toNat_lt hv).2 hhi⟩
  · rintro ⟨_, hpos, hpi⟩
    have hv := toNat_lt_of_realOf_pos hpos
    exact ⟨(realOf_pos_iff_of_toNat_lt hv).1 hpos, (realOf_lt_pi_iff_of_toNat_lt hv).1 hpi⟩

end Sys2Proof.Machine
end

section
/-! PROOFS. The reference generators over the reals (45_coefficients R258, R263, R264): for a valid cutoff omega lies
between 0 and pi, so that no denominator is 0, and the single-pole alpha is a rising function of 1 - cos w. -/

namespace Sys2Proof.Machine

/-! ## The biquad -/

section
variable {fs fc q : ℝ} (hfc : 0 < fc) (hfs : 2 * fc < fs)
include hfc hfs

/-- For every valid input 0 < omega < pi (45_coefficients R262). -/
theorem bqOmega_mem_Ioo : bqOmega fs fc ∈ Set.Ioo 0 Real.pi := by
  have hpos : 0 < fs := by linarith
  refine ⟨by unfold bqOmega; positivity, ?_⟩
  rw [bqOmega, div_lt_iff₀ hpos]
  have hscaled : Real.pi * (2 * fc) < Real.pi * fs := mul_lt_mul_of_pos_left hfs Real.pi_pos
  linarith

theorem bqAlpha_pos (hq : 0 < q) : 0 < bqAlpha fs fc q := by
  have homega := bqOmega_mem_Ioo hfc hfs
  have hsin := Real.sin_pos_of_mem_Ioo homega
  have hlog := Real.log_pos one_lt_two
  have hpos := homega.1
  exact mul_pos hsin (Real.sinh_pos_iff.2 (by positivity))

theorem cos_bqOmega_lt_one : Real.cos (bqOmega fs fc) < 1 := by
  obtain ⟨hpos, hpi⟩ := bqOmega_mem_Ioo hfc hfs
  simpa using Real.cos_lt_cos_of_nonneg_of_le_pi le_rfl hpi.le hpos

/-- The biquad's gain at DC: both sums are 2 (1 - cos omega) over 1 + alpha. -/
theorem bqReal_dcGain (hq : 0 < q) :
    (bqB0Real fs fc q + bqB1Real fs fc q + bqB2Real fs fc q) / (1 + bqA1Real fs fc q + bqA2Real fs fc q) = 1 := by
  have ha0 : 1 + bqAlpha fs fc q ≠ 0 := by linarith [bqAlpha_pos hfc hfs hq]
  have hcos : 2 * (1 - Real.cos (bqOmega fs fc)) / (1 + bqAlpha fs fc q) ≠ 0 :=
    div_ne_zero (by linarith [cos_bqOmega_lt_one hfc hfs]) ha0
  have hnum : bqB0Real fs fc q + bqB1Real fs fc q + bqB2Real fs fc q =
      2 * (1 - Real.cos (bqOmega fs fc)) / (1 + bqAlpha fs fc q) := by
    unfold bqB0Real bqB1Real bqB2Real
    ring
  have hden : 1 + bqA1Real fs fc q + bqA2Real fs fc q =
      2 * (1 - Real.cos (bqOmega fs fc)) / (1 + bqAlpha fs fc q) := by
    unfold bqA1Real bqA2Real
    field_simp
    ring
  rw [hnum, hden, div_self hcos]

end

/-! ## The single pole -/

/-- genSP_real as a function of y = 1 - cos w (45_coefficients R258). -/
noncomputable def spAlphaOf (y : ℝ) : ℝ :=
  -y + Real.sqrt (y ^ 2 + 2 * y)

theorem genSpReal_eq (w : ℝ) : genSpReal w = spAlphaOf (1 - Real.cos w) :=
  rfl

theorem spAlphaOf_zero : spAlphaOf 0 = 0 := by
  simp [spAlphaOf]

theorem spAlphaOf_two : spAlphaOf 2 = Real.sqrt 8 - 2 := by
  norm_num [spAlphaOf]
  ring

/-- From a to b the square root rises by more than b - a, because it is less than y + 1 at y = a. -/
theorem strictMonoOn_spAlphaOf : StrictMonoOn spAlphaOf (Set.Ici 0) := by
  intro a ha b _ hab
  have ha0 : 0 ≤ a := ha
  have hroot : Real.sqrt (a ^ 2 + 2 * a) < a + 1 := (Real.sqrt_lt' (by linarith)).2 (by linarith)
  have hsq : Real.sqrt (a ^ 2 + 2 * a) ^ 2 = a ^ 2 + 2 * a := Real.sq_sqrt (by positivity)
  have hslope := mul_lt_mul_of_pos_left hroot (sub_pos.2 hab)
  have hstep : Real.sqrt (a ^ 2 + 2 * a) + (b - a) < Real.sqrt (b ^ 2 + 2 * b) :=
    Real.lt_sqrt_of_sq_lt (by linarith)
  unfold spAlphaOf
  linarith

theorem strictMonoOn_one_sub_cos : StrictMonoOn (fun w => 1 - Real.cos w) (Set.Icc 0 Real.pi) :=
  fun _ hw _ hw' h => sub_lt_sub_left (Real.strictAntiOn_cos hw hw' h) 1

theorem strictMonoOn_genSpReal : StrictMonoOn genSpReal (Set.Icc 0 Real.pi) :=
  strictMonoOn_spAlphaOf.comp strictMonoOn_one_sub_cos fun w _ => sub_nonneg.2 (Real.cos_le_one w)

theorem genSpReal_zero : genSpReal 0 = 0 := by
  rw [genSpReal_eq, Real.cos_zero, sub_self, spAlphaOf_zero]

theorem genSpReal_pi : genSpReal Real.pi = Real.sqrt 8 - 2 := by
  rw [genSpReal_eq, Real.cos_pi, sub_neg_eq_add, one_add_one_eq_two, spAlphaOf_two]

/-- Settles O45: alpha rises from 0 at w = 0 to sqrt(8) - 2 at w = pi. -/
theorem referenceGeneratorProperties : Obligations.ReferenceGeneratorProperties := by
  unfold Obligations.ReferenceGeneratorProperties
  refine ⟨fun fs fc q hfc hfs hq => ⟨rfl, ?_, bqReal_dcGain hfc hfs hq⟩, fun w hw hpi => ?_, fun w w' hw hlt hpi => ?_⟩
  · unfold bqB0Real bqB1Real
    ring
  · have hmem : w ∈ Set.Icc 0 Real.pi := ⟨hw.le, hpi.le⟩
    have hzero := strictMonoOn_genSpReal (Set.left_mem_Icc.2 Real.pi_pos.le) hmem hw
    have htop := strictMonoOn_genSpReal hmem (Set.right_mem_Icc.2 Real.pi_pos.le) hpi
    rw [genSpReal_zero] at hzero
    rw [genSpReal_pi] at htop
    exact ⟨hzero, htop⟩
  · exact strictMonoOn_genSpReal ⟨hw.le, (hlt.trans hpi).le⟩ ⟨(hw.trans hlt).le, hpi.le⟩ hlt

end Sys2Proof.Machine
end

section
/-! PROOFS. Errors and irq (60_exceptions R280, R283, R285, R286, R288): the capture case by case, the commands that
raise an error, and irq in the bits of STATUS and CTRL. -/

namespace Sys2Proof.Machine

/-! ## The capture -/

theorem raiseError_of_first {s : State} (h : s.err = false) (code : ErrCode) (info : Word) :
    raiseError code info s = { s with err := true, errCode := code, errInfo := info } := by
  simp [raiseError, h]

theorem raiseError_of_later {s : State} (h : s.err = true) (code : ErrCode) (info : Word) :
    raiseError code info s = { s with errOvf := true } := by
  simp [raiseError, h]

/-- Settles O13: the readout code by code, and the capture by whether ERR is clear. -/
theorem firstErrorIsKept : Obligations.FirstErrorIsKept := by
  unfold Obligations.FirstErrorIsKept
  refine ⟨fun s => ?_, fun s code info => ⟨fun h => raiseError_of_first h code info,
    fun h => raiseError_of_later h code info⟩⟩
  unfold readReg errCodeWord
  cases s.errCode <;> rfl

/-! ## The commands -/

/-- A command other than FINISH and SRST fails with no effect but the capture, or leaves ERR and ERR_OVF alone
(60_exceptions R286). -/
theorem exec_failed_or_errorsKept {i : Instr} {s t : State} (h : exec i s = .next t) (hf : i ≠ .finish)
    (hr : i ≠ .srst) :
    (∃ code, code ≠ .none ∧ t = complete (raiseError code (encode i) s)) ∨ (t.err = s.err ∧ t.errOvf = s.errOvf) := by
  cases exec_answers h with
  | failed c code => exact .inl ⟨c, code, rfl⟩
  | finishedEmpty => exact absurd rfl hf
  | softReset => exact absurd rfl hr
  | _ => exact .inr (by simp)

/-- Settles O14: a command that leaves ERR and ERR_OVF alone has recorded no new error. -/
theorem failedCommandChangesNothingElse : Obligations.FailedCommandChangesNothingElse := by
  unfold Obligations.FailedCommandChangesNothingElse
  intro i s t hf hr h hnew
  rcases exec_failed_or_errorsKept h hf hr with hfailed | ⟨herr, hovf⟩
  · exact hfailed
  · simp [herr, hovf] at hnew

/-! ## irq -/

/-- Settles O11: STATUS holds DONE, ERR and IRQ, and CTRL the two enables. -/
theorem irqIsTheEnabledLevel : Obligations.IrqIsTheEnabledLevel := by
  unfold Obligations.IrqIsTheEnabledLevel
  intro s
  obtain ⟨_, hdone, herr, _, _, _, hirq⟩ := statusWord_bits s
  obtain ⟨hieDone, hieErr, _⟩ := ctrlWord_fields s
  refine ⟨?_, hirq⟩
  simp only [readReg, hdone, herr, hieDone, hieErr]
  rfl

end Sys2Proof.Machine
end

section
/-! PROOFS. What outlives every step, the resets included: the model's fault records (60_exceptions R282, 10_state R60)
and BLOCK_SIZE (00_scope R9). -/

namespace Sys2Proof.Machine

/-- From `s` to `t` fault records are added at most, and BLOCK_SIZE is the same. -/
def RecordsKept (s t : State) : Prop :=
  s.faults <+: t.faults ∧ t.blockSize = s.blockSize

theorem recordsKept_of_eq {s t : State} (hf : t.faults = s.faults) (hb : t.blockSize = s.blockSize) :
    RecordsKept s t :=
  ⟨⟨[], by rw [hf, List.append_nil]⟩, hb⟩

theorem recordsKept_recordFault (e : Fault) (s : State) : RecordsKept s (recordFault e s) :=
  ⟨⟨[e], rfl⟩, rfl⟩

/-! ## The core's turn -/

theorem recordsKept_exec {i : Instr} {s t : State} (h : exec i s = .next t) : RecordsKept s t := by
  cases exec_answers h with
  | ranUnwritten k n => exact recordsKept_recordFault _ s
  | _ => exact recordsKept_of_eq (by simp) (by simp)

theorem recordsKept_coreStep {s t : State} (h : coreStep s = .next t) : RecordsKept s t := by
  rcases coreStep_next h with ⟨_, rfl⟩ | ⟨_, _, rfl⟩ | ⟨w, _, _, hw⟩
  · exact recordsKept_of_eq rfl rfl
  · exact recordsKept_of_eq rfl rfl
  · rcases performWord_next hw with ⟨_, _, rfl⟩ | ⟨i, _, hi⟩
    · exact recordsKept_of_eq (by simp) (by simp)
    · exact recordsKept_exec hi

/-! ## The host's accesses -/

theorem recordsKept_readEffect {s t : State} (h : ReadEffect s t) : RecordsKept s t := by
  cases h with
  | unwritten i => exact recordsKept_recordFault _ s
  | unanswered | answered | unspecified => exact recordsKept_of_eq rfl rfl

theorem recordsKept_writeEffect {off : BitVec 17} {v : Word} {s u : State} (h : WriteEffect off v s u) :
    RecordsKept s u := by
  cases h <;> exact recordsKept_of_eq (by simp) (by simp)

theorem recordsKept_busAccess {a : Access} {s t : State} (h : busAccess a s = .next t) : RecordsKept s t := by
  obtain ⟨_, ⟨_, rfl⟩ | ⟨_, ⟨off, n, _, rfl⟩ | ⟨off, n, v, _, rfl⟩⟩⟩ := busAccess_next h
  · exact recordsKept_recordFault _ s
  · exact recordsKept_readEffect (readAccess_effect off s)
  · obtain ⟨u, hu, hwrite⟩ := writeAccess_effect off v s
    rw [hwrite]
    have hkept : RecordsKept s u := recordsKept_writeEffect hu
    exact hkept

/-! ## The step -/

theorem recordsKept_perform {e : Event} {s t : State} (h : perform e s = .next t) : RecordsKept s t := by
  cases e with
  | coreTurn => exact recordsKept_coreStep h
  | access a => exact recordsKept_busAccess h
  | assertReset | releaseReset =>
    obtain rfl := Host.Outcome.next.inj h
    exact recordsKept_of_eq rfl rfl

/-- Settles O60: a step is the core's turn or an agenda entry, and each of these keeps the records. -/
theorem faultRecordsAndBlockSizePersist : Obligations.FaultRecordsAndBlockSizePersist := by
  unfold Obligations.FaultRecordsAndBlockSizePersist
  intro s t h
  rcases step_next h with ⟨_, hcore⟩ | ⟨e, rest, _, he⟩
  · exact recordsKept_coreStep hcore
  · exact recordsKept_perform (s := { s with agenda := rest }) he

end Sys2Proof.Machine
end

section
/-! PROOFS. rst_n low and high again (70_reset R320, R321): the two agenda entries of the pin, each as one equation, and
the bus while the pin is low. -/

namespace Sys2Proof.Machine

/-! ## The pin and the bus -/

theorem step_assertReset {s : State} {rest : List Event} (h : s.agenda = .assertReset :: rest) :
    step s = .next (pinReset { s with agenda := rest }) := by
  unfold step advance
  rw [h]
  rfl

theorem step_releaseReset {s : State} {rest : List Event} (h : s.agenda = .releaseReset :: rest) :
    step s = .next { s with rstN := true, agenda := rest } := by
  unfold step advance
  rw [h]
  rfl

/-- A bus access while rst_n is low has no defined response (70_reset R320). -/
theorem step_access_of_rstN_low {s : State} {a : Access} {rest : List Event} (hr : s.rstN = false)
    (h : s.agenda = .access a :: rest) : step s = .refused (.accessDuringReset a.off.toNat) := by
  rw [step_access h]
  simp [busAccess, hr]

/-! ## The reset -/

/-- Settles O8: the step resets as 10_state R60 tables it, and the pin stays low until the agenda releases it. -/
theorem pinResetDiscardsEverything : Obligations.PinResetDiscardsEverything := by
  unfold Obligations.PinResetDiscardsEverything
  intro s rest h
  obtain ⟨hregs, hbuf, _⟩ := (resetLeavesTheTabledValues.2 { s with agenda := rest }).1
  refine ⟨pinReset { s with agenda := rest }, step_assertReset h, pinReset_cmdLatch _, pinReset_rstN _, hregs, hbuf,
    pinReset_agenda _, fun a rest' ha => ?_, fun rest' ha => ?_⟩
  · exact step_access_of_rstN_low (pinReset_rstN _) ha
  · exact step_releaseReset ha

end Sys2Proof.Machine
end
